-- ==== Sys2Proof/Word.lean ====
section
/-! DEFINITION. The word types of the block (00_scope.md R1, R2, R4): a byte, a 16-bit half, a 32-bit frame word. -/

namespace Sys2Proof

/-- A byte: bits 7 to 0 (R2). -/
abbrev Byte := BitVec 8

/-- A 16-bit readout word or count: bits 15 to 0 (R2). -/
abbrev Half := BitVec 16

/-- A 32-bit frame word `W = {B0, B1, B2, B3}` (R3, R26). -/
abbrev FrameWord := BitVec 32

end Sys2Proof
end

