-- ==== Sys2Proof/Syntax.lean ====
section
/-! DEFINITION. The operations of spec/opcode_table.json, the input ports of one cycle, and the abstract syntax of
the test scripts (30_encoding.md R35 to R44, 10_state.md R17). -/

namespace Sys2Proof

/-- The operations of the block, one constructor for each row of spec/opcode_table.json.
The FRAME operations take the frame word they decode; `rst` and `berr` take the input bits their rows leave open
(`1--`, `01-`), so that every CTRL value is one term; `cap` takes the word on `frame_in`. -/
inductive Instr where
  /-- PROBE_FIELD, 40_frame_decoder.md R46. -/
  | probeField (w : FrameWord)
  /-- PROBE_SEXT, 40_frame_decoder.md R47. -/
  | probeSext (w : FrameWord)
  /-- PROBE_SCALE, 40_frame_decoder.md R48. -/
  | probeScale (w : FrameWord)
  /-- REF_FIELD, 40_frame_decoder.md R49. -/
  | refField (w : FrameWord)
  /-- REF_SEXT, 40_frame_decoder.md R50. -/
  | refSext (w : FrameWord)
  /-- REF_SCALE, 40_frame_decoder.md R51. -/
  | refScale (w : FrameWord)
  /-- FAULT_SCV, 40_frame_decoder.md R52. -/
  | faultScv (w : FrameWord)
  /-- FAULT_SCG, 40_frame_decoder.md R53. -/
  | faultScg (w : FrameWord)
  /-- FAULT_OC, 40_frame_decoder.md R54. -/
  | faultOc (w : FrameWord)
  /-- FAULT_AGG, 40_frame_decoder.md R55. -/
  | faultAgg (w : FrameWord)
  /-- DECODE, 40_frame_decoder.md R57. -/
  | decode (w : FrameWord)
  /-- RST, 70_reset_and_hazards.md R92; the other two inputs may have any value. -/
  | rst (busErr frameWe : Bool)
  /-- BERR, 41_frame_capture.md R63; with `frameWe` it is CAPBERR, R64. -/
  | berr (frameWe : Bool)
  /-- CAP, 41_frame_capture.md R62. -/
  | cap (frameIn : FrameWord)
  /-- NOP, 41_frame_capture.md R65. -/
  | nop
  /-- RD_PROBE, 42_readout_mux.md R71. -/
  | rdProbe
  /-- RD_REF, 42_readout_mux.md R72. -/
  | rdRef
  /-- RD_FAULT, 42_readout_mux.md R73. -/
  | rdFault
  /-- RD_RAWHI, 42_readout_mux.md R74. -/
  | rdRawhi
  /-- RD_RAWLO, 42_readout_mux.md R75. -/
  | rdRawlo
  /-- RD_STATUS, 42_readout_mux.md R76. -/
  | rdStatus
  /-- RD_RSVD6, 42_readout_mux.md R77. -/
  | rdRsvd6
  /-- RD_RSVD7, 42_readout_mux.md R78. -/
  | rdRsvd7
deriving DecidableEq, Repr

/-- The values on the input ports during one cycle (10_state.md R17, R23, section 4); `clk` is the step itself (D1). -/
structure Ports where
  rst : Bool
  frameWe : Bool
  busErr : Bool
  frameIn : FrameWord
  sel : BitVec 3
deriving DecidableEq, Repr, Inhabited

/-- The bits of an operation in its format (30_encoding.md R43): a FRAME word, a CTRL value with the word on
`frame_in`, or a SEL value. -/
inductive Code where
  | frame (w : FrameWord)
  | ctrl (bits : BitVec 3) (frameIn : FrameWord)
  | sel (bits : BitVec 3)
deriving DecidableEq, Repr

/-- One row of a 3-bit format: the values `v` with `v &&& mask = bits` (30_encoding.md R38, R39). -/
structure TableRow where
  mnemonic : String
  bits : BitVec 3
  mask : BitVec 3
deriving DecidableEq, Repr

/-- Why a word of the opcode table is rejected: no format has that width, or the value does not fit the width (R43). -/
inductive DecodeError where
  | noSuchFormat (nbits : Nat)
  | doesNotFit (nbits w : Nat)
deriving DecidableEq, Repr

/-- The write-side operation of a script line (30_encoding.md R42, `wop`). -/
inductive WriteOp where
  | rst
  | berr
  | nop
  | cap (w : FrameWord)
  | capberr (w : FrameWord)
deriving DecidableEq, Repr

/-- The select names of a script line (30_encoding.md R42, `sel`). -/
inductive ReadSel where
  | probe
  | ref
  | fault
  | rawhi
  | rawlo
  | status
  | rsvd6
  | rsvd7
deriving DecidableEq, Repr

/-- What a script line expects its read to give (30_encoding.md R42, `expect`). -/
structure Expect where
  rdata : Half
  rvalid : Bool
deriving DecidableEq, Repr

/-- One line of a test script, which is one clock cycle (30_encoding.md R42). The pseudo-line `RD s` is the line
with `nop` and a read. -/
structure Line where
  wop : WriteOp
  read : Option ReadSel
  expect : Option Expect
deriving DecidableEq, Repr

/-- Why the text of a script line is rejected. -/
inductive ScriptError where
  /-- a line with no operation -/
  | emptyLine
  /-- the line begins with no operation of R42 -/
  | badOperation
  /-- CAP or CAPBERR without `0x` and 8 hexadecimal digits -/
  | badFrame
  /-- what follows the operation is no read of R42 -/
  | badRead
  /-- what follows the read is no expectation of R42 -/
  | badExpect
deriving DecidableEq, Repr

end Sys2Proof
end

