-- ==== Sys2Proof/WellFormed.lean ====
section
/-! DEFINITION. What makes a term well formed. Every operation is: no CTRL value and no FRAME word is illegal
(30_encoding.md R40), and the widths are in the types. A cycle and a script line can be ill formed. -/

namespace Sys2Proof

/-- Every operation with every operand is well formed (30_encoding.md R40). -/
def Instr.wellFormed : Instr → Bool
  | .probeField _ => true
  | .probeSext _ => true
  | .probeScale _ => true
  | .refField _ => true
  | .refSext _ => true
  | .refScale _ => true
  | .faultScv _ => true
  | .faultScg _ => true
  | .faultOc _ => true
  | .faultAgg _ => true
  | .decode _ => true
  | .rst _ _ => true
  | .berr _ => true
  | .cap _ => true
  | .nop => true
  | .rdProbe => true
  | .rdRef => true
  | .rdFault => true
  | .rdRawhi => true
  | .rdRawlo => true
  | .rdStatus => true
  | .rdRsvd6 => true
  | .rdRsvd7 => true

/-- A cycle as the assembler writes it: `frame_in` is 0 where `frame_we` = 0 (30_encoding.md R41). -/
def Ports.assembled (p : Ports) : Bool :=
  p.frameWe || p.frameIn == 0#32

/-- A line's expectation stands after its read (30_encoding.md R42). -/
def Line.wellFormed (l : Line) : Bool :=
  l.read.isSome || l.expect.isNone

end Sys2Proof
end

