-- ==== Sys2Proof/Decode.lean ====
section
/-! DEFINITION. The formats of 30_encoding.md: CTRL and SEL rows, the decoders, the CYC word, and the encoder. -/

namespace Sys2Proof

/-- The CTRL value `{rst, bus_err, frame_we}` of a cycle (R38). -/
def Ports.ctrl (p : Ports) : BitVec 3 :=
  BitVec.ofBool p.rst ++ BitVec.ofBool p.busErr ++ BitVec.ofBool p.frameWe

/-- A row selects a 3-bit value (R38, the match and mask columns). -/
def TableRow.selects (r : TableRow) (v : BitVec 3) : Bool :=
  v &&& r.mask == r.bits

/-- The CTRL rows of R38. -/
def ctrlRows : List TableRow :=
  [⟨"RST", 0b100#3, 0b100#3⟩, ⟨"BERR", 0b010#3, 0b110#3⟩, ⟨"CAP", 0b001#3, 0b111#3⟩, ⟨"NOP", 0b000#3, 0b111#3⟩]

/-- The SEL rows of R39. -/
def selRows : List TableRow :=
  [⟨"RD_PROBE", 0b000#3, 0b111#3⟩, ⟨"RD_REF", 0b001#3, 0b111#3⟩, ⟨"RD_FAULT", 0b010#3, 0b111#3⟩,
   ⟨"RD_RAWHI", 0b011#3, 0b111#3⟩, ⟨"RD_RAWLO", 0b100#3, 0b111#3⟩, ⟨"RD_STATUS", 0b101#3, 0b111#3⟩,
   ⟨"RD_RSVD6", 0b110#3, 0b111#3⟩, ⟨"RD_RSVD7", 0b111#3, 0b111#3⟩]

/-- The operations one frame word feeds: the decoder computes all eleven at once (40_frame_decoder.md, R35, R57). -/
def decodeFrame (w : FrameWord) : List Instr :=
  [.probeField w, .probeSext w, .probeScale w, .refField w, .refSext w, .refScale w,
   .faultScv w, .faultScg w, .faultOc w, .faultAgg w, .decode w]

/-- The operation a CTRL value selects, with the word on `frame_in` (R38; the order is R84's priority). -/
def decodeCtrl (c : BitVec 3) (frameIn : FrameWord) : Instr :=
  if c.getLsbD 2 then .rst (c.getLsbD 1) (c.getLsbD 0)
  else if c.getLsbD 1 then .berr (c.getLsbD 0)
  else if c.getLsbD 0 then .cap frameIn
  else .nop

/-- The readout a SEL value selects (R39). -/
def decodeSel (c : BitVec 3) : Instr :=
  if c = 0b000#3 then .rdProbe
  else if c = 0b001#3 then .rdRef
  else if c = 0b010#3 then .rdFault
  else if c = 0b011#3 then .rdRawhi
  else if c = 0b100#3 then .rdRawlo
  else if c = 0b101#3 then .rdStatus
  else if c = 0b110#3 then .rdRsvd6
  else .rdRsvd7

/-- The operations that the bits of a format stand for. -/
def decode : Code → List Instr
  | .frame w => decodeFrame w
  | .ctrl c f => [decodeCtrl c f]
  | .sel c => [decodeSel c]

/-- The CYC word `{rst, bus_err, frame_we, sel[2:0]}` of a cycle (R41). -/
def Ports.cyc (p : Ports) : BitVec 6 :=
  p.ctrl ++ p.sel

/-- The cycle that a CYC word and a `frame_in` describe (R41). -/
def portsOfCyc (c : BitVec 6) (frameIn : FrameWord) : Ports :=
  { rst := c.getLsbD 5, busErr := c.getLsbD 4, frameWe := c.getLsbD 3, frameIn := frameIn, sel := c.extractLsb' 0 3 }

/-- The one operation a CYC word stands for where one is asked for: its read if its CTRL operation is NOP (R42: the
line `RD s` is `NOP, RD s`), else its CTRL operation, with `frame_in` = 0 (log entry 1). -/
def decodeCyc (c : BitVec 6) : Instr :=
  if c.extractLsb' 3 3 = 0b000#3 then decodeSel (c.extractLsb' 0 3) else decodeCtrl (c.extractLsb' 3 3) 0#32

/-- The instruction of an opcode-table word of `nbits` bits: a 32-bit word is a FRAME word, read as the composite
DECODE; a shorter one is a CYC word, whose low three bits are the SEL value (log entry 1). Other widths and values that
do not fit are rejected by name (R43). -/
def decodeTable (nbits w : Nat) : Except DecodeError Instr :=
  if nbits = 32 then
    if w < 4294967296 then .ok (.decode (BitVec.ofNat 32 w)) else .error (.doesNotFit nbits w)
  else if nbits = 3 then
    if w < 8 then .ok (decodeCyc (BitVec.ofNat 6 w)) else .error (.doesNotFit nbits w)
  else if nbits = 6 ∨ nbits = 8 then
    if w < 64 then .ok (decodeCyc (BitVec.ofNat 6 w)) else .error (.doesNotFit nbits w)
  else .error (.noSuchFormat nbits)

/-- The instruction the decoder reads from an opcode-table word, `none` where it refuses (log entry 1). -/
def decodeTableWord (nbits w : Nat) : Option Instr :=
  match decodeTable nbits w with
  | .ok i => some i
  | .error _ => none

/-- The bits of an operation in its format (R35, R38, R39). Only CAP reads `frame_in` (R23), and it carries CAP's word. For a
CTRL value with `frame_we` = 0 (NOP, `berr false`, `rst _ false`) it is 0, as the assembler writes it (R41). For one with
`frame_we` = 1 that is not CAP (`berr true`, `rst _ true`) no rule fixes it, and R42 lets CAPBERR carry any word there; the
model writes 0: DESIGN CHOICE, log entry 13. -/
def encode : Instr → Code
  | .probeField w => .frame w
  | .probeSext w => .frame w
  | .probeScale w => .frame w
  | .refField w => .frame w
  | .refSext w => .frame w
  | .refScale w => .frame w
  | .faultScv w => .frame w
  | .faultScg w => .frame w
  | .faultOc w => .frame w
  | .faultAgg w => .frame w
  | .decode w => .frame w
  | .rst e f => .ctrl (0b1#1 ++ BitVec.ofBool e ++ BitVec.ofBool f) 0#32
  | .berr f => .ctrl (0b01#2 ++ BitVec.ofBool f) 0#32
  | .cap w => .ctrl 0b001#3 w
  | .nop => .ctrl 0b000#3 0#32
  | .rdProbe => .sel 0b000#3
  | .rdRef => .sel 0b001#3
  | .rdFault => .sel 0b010#3
  | .rdRawhi => .sel 0b011#3
  | .rdRawlo => .sel 0b100#3
  | .rdStatus => .sel 0b101#3
  | .rdRsvd6 => .sel 0b110#3
  | .rdRsvd7 => .sel 0b111#3

/-- A code with the `frame_in` that `encode` writes: cleared where the operation does not read it (R23: only CAP does). With
`frame_we` = 0 the zero is R41's; with `frame_we` = 1 it is the model's, DESIGN CHOICE of log entry 13. -/
def Code.canonical : Code → Code
  | .frame w => .frame w
  | .ctrl c f => .ctrl c (if c = 0b001#3 then f else 0#32)
  | .sel c => .sel c

end Sys2Proof
end

