-- ==== Sys2Proof/Config.lean ====
section
/-! DEFINITION. What the spec leaves open or to an implementation, as constants without a body: nothing can be proved
about their values. -/

namespace Sys2Proof

/-- `CLK_HZ`, an open parameter that no rule reads (00_scope.md R1, D22; log entry 7). -/
opaque Config.clkHz : Rat

/-- `T_SETUP`, an open parameter that no rule reads (00_scope.md R1, 70_reset_and_hazards.md R97; log entry 7). -/
opaque Config.tSetup : Rat

/-- `T_HOLD`, an open parameter that no rule reads (00_scope.md R1, 70_reset_and_hazards.md R97; log entry 7). -/
opaque Config.tHold : Rat

/-- What the host drives in the n-th cycle whose inputs the state's script does not give: the host may drive any
input in any cycle (10_state.md R11, D26; log entry 2). -/
opaque Config.hostPorts : Nat → Ports

/-- FRAME before the first reset: any word (10_state.md R22, D10; log entry 6). -/
opaque Config.powerUpFrame : FrameWord

/-- VALID before the first reset: any bit (10_state.md R22, D10; log entry 6). -/
opaque Config.powerUpValid : Bool

/-- BUSERR before the first reset: any bit (10_state.md R22, D10; log entry 6). -/
opaque Config.powerUpBuserr : Bool

end Sys2Proof
end

