-- ==== Sys2Proof/Machine/State.lean ====
section
/-! DEFINITION. The state of the block (10_state.md), the values on its outputs, and the state after reset. -/

namespace Sys2Proof.Machine

/-- One readout: `rdata` and `rvalid` (10_state.md R18, 42_readout_mux.md R70). -/
structure ReadWord where
  rdata : Half
  rvalid : Bool
deriving DecidableEq, Repr

/-- The decoded reading: exactly the six fields of 40_frame_decoder.md R57. -/
structure Reading where
  probeQ : Half
  refQ : Half
  scv : Bool
  scg : Bool
  oc : Bool
  faultAny : Bool
deriving DecidableEq, Repr

/-- The values the decoder's eleven functions were last evaluated to (40_frame_decoder.md R46 to R57). The decoder has
no state (R45): this is the model's record of its combinational outputs (log entry 3). Temperatures are the exact
rationals of 00_scope.md R7. -/
structure DecoderOutputs where
  probeRaw14 : BitVec 14
  probeQ : Half
  probeTemperature : Rat
  refRaw12 : BitVec 12
  refQ : Half
  refTemperature : Rat
  scv : Bool
  scg : Bool
  oc : Bool
  faultAny : Bool
  reading : Reading
deriving DecidableEq, Repr

/-- The state. `frame`, `valid` and `buserr` are the whole architectural state (10_state.md section 4); the other fields
are the model's own: what stood on the output ports in the cycle that ended last, the decoder's outputs, and what the
host drives (log entries 2 and 3). -/
structure State where
  /-- FRAME, 10_state.md R12. -/
  frame : FrameWord
  /-- VALID, 10_state.md R13. -/
  valid : Bool
  /-- BUSERR, 10_state.md R14. -/
  buserr : Bool
  /-- The output port `rdata` (R18) as read in the cycle that ended last. -/
  rdata : Half
  /-- The output port `rvalid` (R18) as read in the cycle that ended last. -/
  rvalid : Bool
  /-- The decoder's outputs as last evaluated (R45 to R57). -/
  decoder : DecoderOutputs
  /-- The inputs of the coming cycles, the current one first (R17, R11). -/
  script : List Ports
  /-- How many cycles have run whose inputs the script did not give. -/
  undriven : Nat
deriving DecidableEq, Repr

/-- The block stops with no fault: no operation can fail and nothing traps (60_exceptions.md R80, R85). The type has
no constructor, so no outcome of a step is a fault. This is what the spec says, so it is safe. -/
inductive Fault where
deriving DecidableEq, Repr

/-- Why a step is refused. -/
inductive Refusal where
  /-- Raised by an arm of `exec` whose instruction has no meaning yet; no arm of this model raises it. Safe: the model
  would stop where the hardware goes on. -/
  | notModelled (mnemonic : String)
deriving DecidableEq, Repr

/-- What an operation or a step answers. -/
abbrev Result := Host.Outcome State Fault Refusal

/-- The state after reset: FRAME = 0x00000000, VALID = 0, BUSERR = 0 (10_state.md section 4, R12 to R14,
70_reset_and_hazards.md R92). The model's own fields: nothing has been read, the decoder's outputs are those of the
zero frame, and the host has said nothing yet (DESIGN CHOICE, log entries 2 and 3). -/
def State.reset : State where
  frame := 0x00000000#32
  valid := false
  buserr := false
  rdata := 0x0000#16
  rvalid := false
  decoder :=
    { probeRaw14 := 0#14, probeQ := 0#16, probeTemperature := 0, refRaw12 := 0#12, refQ := 0#16, refTemperature := 0,
      scv := false, scg := false, oc := false, faultAny := false,
      reading := { probeQ := 0#16, refQ := 0#16, scv := false, scg := false, oc := false, faultAny := false } }
  script := []
  undriven := 0

/-- The state before the first reset: FRAME, VALID and BUSERR may have any value, so they are free values
(10_state.md R22; log entry 6). -/
def State.powerUp : State :=
  { State.reset with frame := Config.powerUpFrame, valid := Config.powerUpValid, buserr := Config.powerUpBuserr }

end Sys2Proof.Machine
end

