-- ==== Sys2Proof/Machine/Flags.lean ====
section
/-! DEFINITION. The flags VALID and BUSERR, what they gate, and the words built from flags (10_state.md R13, R14,
42_readout_mux.md R70, R73, R76). -/

namespace Sys2Proof.Machine

/-- Write both flags at one edge. -/
def State.setFlags (s : State) (valid buserr : Bool) : State :=
  { s with valid := valid, buserr := buserr }

/-- CAP sets VALID and clears BUSERR (R13, R14, R62). -/
def State.flagReading (s : State) : State := s.setFlags true false

/-- BERR clears VALID and sets BUSERR (R13, R14, R63). -/
def State.flagBusError (s : State) : State := s.setFlags false true

/-- Reset clears both flags (R13, R14, R92). -/
def State.clearFlags (s : State) : State := s.setFlags false false

/-- `gated(v)`: the view and `rvalid` = 1 while VALID = 1, else 0x0000 and `rvalid` = 0 (R70). -/
def gated (valid : Bool) (v : Half) : ReadWord :=
  if valid then { rdata := v, rvalid := true } else { rdata := 0x0000#16, rvalid := false }

/-- The fault word `zext_16({FAULT_ANY, SCV, SCG, OC})` (R73). -/
def faultWord (r : Reading) : Half :=
  (BitVec.ofBool r.faultAny ++ BitVec.ofBool r.scv ++ BitVec.ofBool r.scg ++ BitVec.ofBool r.oc).setWidth 16

/-- The status word `zext_16({BUSERR, VALID})` (R76). -/
def statusWord (buserr valid : Bool) : Half :=
  (BitVec.ofBool buserr ++ BitVec.ofBool valid).setWidth 16

end Sys2Proof.Machine
end

