-- ==== Sys2Proof/Machine/Operands.lean ====
section
/-! DEFINITION. The fields of a frame word and the counts and temperatures made of them (20_memory.md R26, R27,
30_encoding.md R35 to R37, 40_frame_decoder.md R46 to R57). -/

namespace Sys2Proof.Machine

/-- B0, the first byte received: `W[31:24]` (R26). -/
def byte0 (w : FrameWord) : Byte := w.extractLsb' 24 8

/-- B1: `W[23:16]` (R26). -/
def byte1 (w : FrameWord) : Byte := w.extractLsb' 16 8

/-- B2: `W[15:8]` (R26). -/
def byte2 (w : FrameWord) : Byte := w.extractLsb' 8 8

/-- B3, the last byte received: `W[7:0]` (R26). -/
def byte3 (w : FrameWord) : Byte := w.extractLsb' 0 8

/-- The frame word of four bytes, B0 first (R26). -/
def frameOfBytes (b0 b1 b2 b3 : Byte) : FrameWord := b0 ++ b1 ++ b2 ++ b3

/-- The probe window `(B0 << 8) + (B1 & 0xFC)` (R27). -/
def probeWindow (w : FrameWord) : Half :=
  ((byte0 w).setWidth 16 <<< 8) + ((byte1 w &&& 0xFC#8).setWidth 16)

/-- The reference window `(B2 << 8) + (B3 & 0xF0)` (R27). -/
def refWindow (w : FrameWord) : Half :=
  ((byte2 w).setWidth 16 <<< 8) + ((byte3 w &&& 0xF0#8).setWidth 16)

/-- `probe_raw14 = W[31:18]` (R46). -/
def probeRaw14 (w : FrameWord) : BitVec 14 := w.extractLsb' 18 14

/-- `sext_16` of a 14-bit field (R5, R47). -/
def probeSext (f : BitVec 14) : Half := f.signExtend 16

/-- `probe_q = sext_16(W[31:18])` (R47). -/
def probeQ (w : FrameWord) : Half := probeSext (probeRaw14 w)

/-- `probe_temperature_c = sint(probe_q) / 4`, exact (R7, R48). -/
def probeTemperature (q : Half) : Rat := mkRat q.toInt 4

/-- `ref_raw12 = W[15:4]` (R49). -/
def refRaw12 (w : FrameWord) : BitVec 12 := w.extractLsb' 4 12

/-- `sext_16` of a 12-bit field (R5, R50). -/
def refSext (f : BitVec 12) : Half := f.signExtend 16

/-- `ref_q = sext_16(W[15:4])` (R50). -/
def refQ (w : FrameWord) : Half := refSext (refRaw12 w)

/-- `reference_temperature_c = sint(ref_q) / 16`, exact (R7, R51). -/
def refTemperature (q : Half) : Rat := mkRat q.toInt 16

/-- SCV, short to Vcc: `W[2]` (R52). -/
def scv (w : FrameWord) : Bool := w.getLsbD 2

/-- SCG, short to GND: `W[1]` (R53). -/
def scg (w : FrameWord) : Bool := w.getLsbD 1

/-- OC, open circuit: `W[0]` (R54). -/
def oc (w : FrameWord) : Bool := w.getLsbD 0

/-- FAULT_ANY, the aggregate fault bit: `W[16]`, not computed from the causes (R55). -/
def faultAny (w : FrameWord) : Bool := w.getLsbD 16

/-- DECODE(W), the whole reading (R57). -/
def readingOf (w : FrameWord) : Reading :=
  { probeQ := probeQ w, refQ := refQ w, scv := scv w, scg := scg w, oc := oc w, faultAny := faultAny w }

/-- All eleven decoder outputs for one frame word (R46 to R57). -/
def decoderOutputs (w : FrameWord) : DecoderOutputs :=
  { probeRaw14 := probeRaw14 w, probeQ := probeQ w, probeTemperature := probeTemperature (probeQ w),
    refRaw12 := refRaw12 w, refQ := refQ w, refTemperature := refTemperature (refQ w),
    scv := scv w, scg := scg w, oc := oc w, faultAny := faultAny w, reading := readingOf w }

end Sys2Proof.Machine
end

