-- ==== Sys2Proof/Machine/Ops.lean ====
section
/-! DEFINITION. The named operations the meanings are made of: register updates, the views of the readout, and the
readout function (41_frame_capture.md, 42_readout_mux.md, 70_reset_and_hazards.md). There is no memory operation (R25)
and no exception entry or return (60_exceptions.md R80, R85, R86). -/

namespace Sys2Proof.Machine

/-- Write all 32 bits of FRAME (R12, R29). -/
def State.setFrame (s : State) (w : FrameWord) : State := { s with frame := w }

/-- Drive the output ports `rdata` and `rvalid` (R18). -/
def State.setOutputs (s : State) (r : ReadWord) : State := { s with rdata := r.rdata, rvalid := r.rvalid }

/-- Record values on the decoder's outputs (log entry 3). -/
def State.setDecoder (s : State) (d : DecoderOutputs) : State := { s with decoder := d }

/-- CAP's writes (R62). -/
def State.captureFrame (s : State) (w : FrameWord) : State := (s.setFrame w).flagReading

/-- BERR's writes; FRAME is unchanged (R63). -/
def State.recordBusError (s : State) : State := s.flagBusError

/-- RST's writes (R92). -/
def State.resetBlock (s : State) : State := (s.setFrame 0x00000000#32).clearFlags

/-- The view of RD_PROBE (R71). -/
def viewProbe (s : State) : ReadWord := gated s.valid (probeQ s.frame)

/-- The view of RD_REF (R72). -/
def viewRef (s : State) : ReadWord := gated s.valid (refQ s.frame)

/-- The view of RD_FAULT (R73). -/
def viewFault (s : State) : ReadWord := gated s.valid (faultWord (readingOf s.frame))

/-- The view of RD_RAWHI: `{B0, B1}` (R74). -/
def viewRawhi (s : State) : ReadWord := gated s.valid (s.frame.extractLsb' 16 16)

/-- The view of RD_RAWLO: `{B2, B3}` (R75). -/
def viewRawlo (s : State) : ReadWord := gated s.valid (s.frame.extractLsb' 0 16)

/-- The view of RD_STATUS, never gated (R76). -/
def viewStatus (s : State) : ReadWord := { rdata := statusWord s.buserr s.valid, rvalid := true }

/-- The view of the reserved select codes, in every state (R77, R78). -/
def viewReserved : ReadWord := { rdata := 0x0000#16, rvalid := false }

/-- `Readout(S, sel)` (R70). -/
def readout (s : State) (sel : BitVec 3) : ReadWord :=
  if sel = 0b000#3 then viewProbe s
  else if sel = 0b001#3 then viewRef s
  else if sel = 0b010#3 then viewFault s
  else if sel = 0b011#3 then viewRawhi s
  else if sel = 0b100#3 then viewRawlo s
  else if sel = 0b101#3 then viewStatus s
  else viewReserved

/-- What stood on the output ports in the cycle that ended last (R18). -/
def State.observed (s : State) : ReadWord := { rdata := s.rdata, rvalid := s.rvalid }

/-- The host's inputs move on by one cycle: the script's head is used up, or one more free drive is (log entry 2). -/
def State.nextCycle (s : State) : State :=
  { s with
    script := s.script.tail
    undriven := match s.script with
      | [] => s.undriven + 1
      | _ :: _ => s.undriven }

end Sys2Proof.Machine
end

