-- ==== Sys2Proof/Machine/FrameCapture.lean ====
section
/-! DEFINITION. The CTRL operations: what one rising edge of `clk` writes (41_frame_capture.md,
70_reset_and_hazards.md R92). -/

namespace Sys2Proof.Machine

/-- RST (R92), whatever `bus_err` and `frame_we` are (R84). -/
def execRst (_busErr _frameWe : Bool) (s : State) : Result := .next s.resetBlock

/-- BERR (R63); with `frame_we` = 1 it is CAPBERR, which does nothing else (R64). -/
def execBerr (_frameWe : Bool) (s : State) : Result := .next s.recordBusError

/-- CAP (R62): FRAME is written whole, VALID set, BUSERR cleared. -/
def execCap (frameIn : FrameWord) (s : State) : Result := .next (s.captureFrame frameIn)

/-- NOP (R65): no state changes. -/
def execNop (s : State) : Result := .next s

end Sys2Proof.Machine
end

