-- ==== Sys2Proof/Machine/FrameDecoder.lean ====
section
/-! DEFINITION. The FRAME operations (40_frame_decoder.md). Each is a function of its operand W alone (R45) and shows
its result on its own output of the decoder (log entry 3); none writes FRAME, VALID or BUSERR. -/

namespace Sys2Proof.Machine

/-- PROBE_FIELD (R46). -/
def execProbeField (w : FrameWord) (s : State) : Result :=
  .next (s.setDecoder { s.decoder with probeRaw14 := probeRaw14 w })

/-- PROBE_SEXT (R47). -/
def execProbeSext (w : FrameWord) (s : State) : Result :=
  .next (s.setDecoder { s.decoder with probeQ := probeQ w })

/-- PROBE_SCALE (R48). -/
def execProbeScale (w : FrameWord) (s : State) : Result :=
  .next (s.setDecoder { s.decoder with probeTemperature := probeTemperature (probeQ w) })

/-- REF_FIELD (R49). -/
def execRefField (w : FrameWord) (s : State) : Result :=
  .next (s.setDecoder { s.decoder with refRaw12 := refRaw12 w })

/-- REF_SEXT (R50). -/
def execRefSext (w : FrameWord) (s : State) : Result :=
  .next (s.setDecoder { s.decoder with refQ := refQ w })

/-- REF_SCALE (R51). -/
def execRefScale (w : FrameWord) (s : State) : Result :=
  .next (s.setDecoder { s.decoder with refTemperature := refTemperature (refQ w) })

/-- FAULT_SCV (R52). -/
def execFaultScv (w : FrameWord) (s : State) : Result :=
  .next (s.setDecoder { s.decoder with scv := scv w })

/-- FAULT_SCG (R53). -/
def execFaultScg (w : FrameWord) (s : State) : Result :=
  .next (s.setDecoder { s.decoder with scg := scg w })

/-- FAULT_OC (R54). -/
def execFaultOc (w : FrameWord) (s : State) : Result :=
  .next (s.setDecoder { s.decoder with oc := oc w })

/-- FAULT_AGG (R55). -/
def execFaultAgg (w : FrameWord) (s : State) : Result :=
  .next (s.setDecoder { s.decoder with faultAny := faultAny w })

/-- DECODE (R57): the whole reading. -/
def execDecode (w : FrameWord) (s : State) : Result :=
  .next (s.setDecoder { s.decoder with reading := readingOf w })

end Sys2Proof.Machine
end

