-- ==== Sys2Proof/Machine/Readout.lean ====
section
/-! DEFINITION. The SEL operations: what the readout multiplexer drives on `rdata` and `rvalid` (42_readout_mux.md). None
writes FRAME, VALID or BUSERR (R29). -/

namespace Sys2Proof.Machine

/-- RD_PROBE (R71). -/
def execRdProbe (s : State) : Result := .next (s.setOutputs (viewProbe s))

/-- RD_REF (R72). -/
def execRdRef (s : State) : Result := .next (s.setOutputs (viewRef s))

/-- RD_FAULT (R73). -/
def execRdFault (s : State) : Result := .next (s.setOutputs (viewFault s))

/-- RD_RAWHI (R74). -/
def execRdRawhi (s : State) : Result := .next (s.setOutputs (viewRawhi s))

/-- RD_RAWLO (R75). -/
def execRdRawlo (s : State) : Result := .next (s.setOutputs (viewRawlo s))

/-- RD_STATUS (R76). -/
def execRdStatus (s : State) : Result := .next (s.setOutputs (viewStatus s))

/-- RD_RSVD6 (R77): reserved, not illegal (R40). -/
def execRdRsvd6 (s : State) : Result := .next (s.setOutputs viewReserved)

/-- RD_RSVD7 (R78): reserved, not illegal (R40). -/
def execRdRsvd7 (s : State) : Result := .next (s.setOutputs viewReserved)

end Sys2Proof.Machine
end

