-- ==== Sys2Proof/Machine/Dispatch.lean ====
section
/-! DEFINITION. One arm for each operation of spec/opcode_table.json. -/

namespace Sys2Proof.Machine

def exec (i : Instr) (s : State) : Host.Outcome State Fault Refusal :=
  match i with
  | .probeField w => Sys2Proof.Machine.execProbeField w s
  | .probeSext w => Sys2Proof.Machine.execProbeSext w s
  | .probeScale w => Sys2Proof.Machine.execProbeScale w s
  | .refField w => Sys2Proof.Machine.execRefField w s
  | .refSext w => Sys2Proof.Machine.execRefSext w s
  | .refScale w => Sys2Proof.Machine.execRefScale w s
  | .faultScv w => Sys2Proof.Machine.execFaultScv w s
  | .faultScg w => Sys2Proof.Machine.execFaultScg w s
  | .faultOc w => Sys2Proof.Machine.execFaultOc w s
  | .faultAgg w => Sys2Proof.Machine.execFaultAgg w s
  | .decode w => Sys2Proof.Machine.execDecode w s
  | .rst e f => Sys2Proof.Machine.execRst e f s
  | .berr f => Sys2Proof.Machine.execBerr f s
  | .cap w => Sys2Proof.Machine.execCap w s
  | .nop => Sys2Proof.Machine.execNop s
  | .rdProbe => Sys2Proof.Machine.execRdProbe s
  | .rdRef => Sys2Proof.Machine.execRdRef s
  | .rdFault => Sys2Proof.Machine.execRdFault s
  | .rdRawhi => Sys2Proof.Machine.execRdRawhi s
  | .rdRawlo => Sys2Proof.Machine.execRdRawlo s
  | .rdStatus => Sys2Proof.Machine.execRdStatus s
  | .rdRsvd6 => Sys2Proof.Machine.execRdRsvd6 s
  | .rdRsvd7 => Sys2Proof.Machine.execRdRsvd7 s

end Sys2Proof.Machine
end

