-- ==== Sys2Proof/Machine/Cycle.lean ====
section
/-! DEFINITION. One clock cycle: which inputs it has, which operations they select, and the order of their effects
(00_scope.md R8, 60_exceptions.md R84, 70_reset_and_hazards.md R96). -/

namespace Sys2Proof.Machine

/-- The inputs of the current cycle: the script's head, or whatever the host drives (R11, R17; log entry 2). -/
def State.ports (s : State) : Ports :=
  match s.script with
  | p :: _ => p
  | [] => Config.hostPorts s.undriven

/-- The operations of one cycle in the order of their effects: the decoder on FRAME and the readout see the state before
the edge, then the edge performs the CTRL operation (R8, R96, R100; log entry 4). -/
def cycleInstrs (frame : FrameWord) (p : Ports) : List Instr :=
  decodeFrame frame ++ [decodeSel p.sel, decodeCtrl p.ctrl p.frameIn]

/-- Run operations one after another, stopping at the first that does not answer a next state. -/
def execSeq : List Instr → State → Result
  | [], s => .next s
  | i :: is, s =>
    match exec i s with
    | .next t => execSeq is t
    | .fault r => .fault r
    | .refused r => .refused r

/-- One clock cycle, up to and including the rising edge that ends it (D1, R30). -/
def runCycle (s : State) : Result :=
  execSeq (cycleInstrs s.frame s.ports) s.nextCycle

/-- The cycle in which nothing is asked for: the CYC word 0x00 with `frame_in` = 0 (R41, R42). -/
def idlePorts : Ports :=
  { rst := false, frameWe := false, busErr := false, frameIn := 0#32, sel := 0b000#3 }

/-- Put an opcode-table word where the next cycle takes its operations from. A 32-bit word goes into FRAME, the decoder's
operand, with an idle cycle in front of the script; a shorter one is the CYC word of a cycle with `frame_in` = 0 in
front of the script (log entry 1). A word the decoder rejects changes nothing. -/
def placeTableWord (s : State) (nbits w : Nat) : State :=
  match decodeTable nbits w with
  | .error _ => s
  | .ok _ =>
    if nbits = 32 then { s with frame := BitVec.ofNat 32 w, script := idlePorts :: s.script }
    else { s with script := portsOfCyc (BitVec.ofNat 6 w) 0#32 :: s.script }

end Sys2Proof.Machine
end

