-- ==== Sys2Proof/Machine/Script.lean ====
section
/-! DEFINITION. The test scripts of 30_encoding.md R41, R42, R44: a line as a clock cycle, its text, and a script as the
inputs of the coming cycles. White space, letter case and the form of an expectation: log entry 8. -/

namespace Sys2Proof.Machine

/-- The select code of a select name (R39, R42). -/
def selCode : ReadSel → BitVec 3
  | .probe => 0b000#3
  | .ref => 0b001#3
  | .fault => 0b010#3
  | .rawhi => 0b011#3
  | .rawlo => 0b100#3
  | .status => 0b101#3
  | .rsvd6 => 0b110#3
  | .rsvd7 => 0b111#3

/-- The cycle a line stands for (R41, R42, R44): a line without a read drives `sel` = 0b000, and `frame_in` is 0 where
`frame_we` = 0. -/
def linePorts (l : Line) : Ports :=
  let sel := match l.read with
    | none => 0b000#3
    | some r => selCode r
  match l.wop with
  | .rst => { rst := true, busErr := false, frameWe := false, frameIn := 0#32, sel := sel }
  | .berr => { rst := false, busErr := true, frameWe := false, frameIn := 0#32, sel := sel }
  | .nop => { rst := false, busErr := false, frameWe := false, frameIn := 0#32, sel := sel }
  | .cap w => { rst := false, busErr := false, frameWe := true, frameIn := w, sel := sel }
  | .capberr w => { rst := false, busErr := true, frameWe := true, frameIn := w, sel := sel }

/-- A state whose coming cycles are the lines of a script. -/
def State.withScript (s : State) (ls : List Line) : State := { s with script := ls.map linePorts }

/-- A token of the script text. -/
abbrev Token := List Char

/-- A finished token in front of the rest; the characters are held last first. -/
def flushToken (acc : Token) (rest : List Token) : List Token :=
  match acc with
  | [] => rest
  | c :: cs => (c :: cs).reverse :: rest

/-- The tokens of a line: separated by blanks, a comma a token of its own, a semicolon starting a comment (R42). -/
def tokensFrom : Token → List Char → List Token
  | acc, [] => flushToken acc []
  | acc, c :: cs =>
    if c = ';' then flushToken acc []
    else if c = ',' then flushToken acc ([','] :: tokensFrom [] cs)
    else if c = ' ' ∨ c = '\t' ∨ c = '\r' then flushToken acc (tokensFrom [] cs)
    else tokensFrom (c :: acc) cs

/-- The value of a hexadecimal digit. -/
def hexDigit (c : Char) : Option Nat :=
  let n := c.toNat
  if 48 ≤ n ∧ n ≤ 57 then some (n - 48)
  else if 65 ≤ n ∧ n ≤ 70 then some (n - 55)
  else if 97 ≤ n ∧ n ≤ 102 then some (n - 87)
  else none

/-- The value of hexadecimal digits, the most significant first, after what has been read already. -/
def hexDigits : Nat → List Char → Option Nat
  | acc, [] => some acc
  | acc, c :: cs =>
    match hexDigit c with
    | none => none
    | some d => hexDigits (acc * 16 + d) cs

/-- `0x` and exactly `digits` hexadecimal digits (R42, `hex32` and `hex16`). -/
def parseHex (digits : Nat) : Token → Option Nat
  | '0' :: 'x' :: ds => if ds.length = digits then hexDigits 0 ds else none
  | _ => none

/-- The select names of R42. -/
def parseSel (t : Token) : Option ReadSel :=
  if t = ['P', 'R', 'O', 'B', 'E'] then some .probe
  else if t = ['R', 'E', 'F'] then some .ref
  else if t = ['F', 'A', 'U', 'L', 'T'] then some .fault
  else if t = ['R', 'A', 'W', 'H', 'I'] then some .rawhi
  else if t = ['R', 'A', 'W', 'L', 'O'] then some .rawlo
  else if t = ['S', 'T', 'A', 'T', 'U', 'S'] then some .status
  else if t = ['R', 'S', 'V', 'D', '6'] then some .rsvd6
  else if t = ['R', 'S', 'V', 'D', '7'] then some .rsvd7
  else none

/-- The expectation of a read (R42, `expect`): nothing, or `-> hex16 rvalid`. -/
def parseExpect : List Token → Except ScriptError (Option Expect)
  | [] => .ok none
  | [arrow, d, v] =>
    if arrow = ['-', '>'] then
      match parseHex 4 d with
      | none => .error .badExpect
      | some n =>
        if v = ['1'] then .ok (some { rdata := BitVec.ofNat 16 n, rvalid := true })
        else if v = ['0'] then .ok (some { rdata := BitVec.ofNat 16 n, rvalid := false })
        else .error .badExpect
    else .error .badExpect
  | _ => .error .badExpect

/-- A line with the operation `op` and the read that begins with `RD` (R42). -/
def parseRead (op : WriteOp) : List Token → Except ScriptError Line
  | rd :: name :: rest =>
    if rd = ['R', 'D'] then
      match parseSel name with
      | none => .error .badRead
      | some r =>
        match parseExpect rest with
        | .error e => .error e
        | .ok x => .ok { wop := op, read := some r, expect := x }
    else .error .badRead
  | _ => .error .badRead

/-- A line with the operation `op` and what follows it: nothing, or a comma and a read (R42). -/
def parseTail (op : WriteOp) : List Token → Except ScriptError Line
  | [] => .ok { wop := op, read := none, expect := none }
  | t :: rest => if t = [','] then parseRead op rest else .error .badRead

/-- A line whose operation takes a frame word (R42, `CAP hex32` and `CAPBERR hex32`). -/
def parseFrameOp (op : FrameWord → WriteOp) : List Token → Except ScriptError Line
  | [] => .error .badFrame
  | t :: rest =>
    match parseHex 8 t with
    | none => .error .badFrame
    | some n => parseTail (op (BitVec.ofNat 32 n)) rest

/-- The tokens of a line (R42, `line`). -/
def parseTokens : List Token → Except ScriptError Line
  | [] => .error .emptyLine
  | t :: rest =>
    if t = ['R', 'D'] then parseRead .nop (t :: rest)
    else if t = ['R', 'S', 'T'] then parseTail .rst rest
    else if t = ['B', 'E', 'R', 'R'] then parseTail .berr rest
    else if t = ['N', 'O', 'P'] then parseTail .nop rest
    else if t = ['C', 'A', 'P'] then parseFrameOp .cap rest
    else if t = ['C', 'A', 'P', 'B', 'E', 'R', 'R'] then parseFrameOp .capberr rest
    else .error .badOperation

/-- The text of one line (R42). -/
def parseLine (cs : List Char) : Except ScriptError Line := parseTokens (tokensFrom [] cs)

/-- The lines of a text, cut at each line feed; a line feed at the end begins no further line. -/
def splitLines : List Char → List (List Char)
  | [] => []
  | c :: cs =>
    if c = '\n' then [] :: splitLines cs
    else
      match splitLines cs with
      | [] => [[c]]
      | l :: ls => (c :: l) :: ls

/-- Parse each line, stopping at the first that is rejected. -/
def parseLines : List (List Char) → Except ScriptError (List Line)
  | [] => .ok []
  | l :: ls =>
    match parseLine l with
    | .error e => .error e
    | .ok x =>
      match parseLines ls with
      | .error e => .error e
      | .ok xs => .ok (x :: xs)

/-- The lines of a script, in order (R42). -/
def parseScript (text : List Char) : Except ScriptError (List Line) := parseLines (splitLines text)

/-- A hexadecimal digit, capitals as the spec writes them. -/
def hexChar (d : BitVec 4) : Char :=
  Char.ofNat (if d.toNat < 10 then 48 + d.toNat else 55 + d.toNat)

/-- `0x` and the 8 digits of a frame word (R42, `hex32`). -/
def renderHex32 (w : FrameWord) : List Char :=
  ['0', 'x', hexChar (w.extractLsb' 28 4), hexChar (w.extractLsb' 24 4), hexChar (w.extractLsb' 20 4),
    hexChar (w.extractLsb' 16 4), hexChar (w.extractLsb' 12 4), hexChar (w.extractLsb' 8 4),
    hexChar (w.extractLsb' 4 4), hexChar (w.extractLsb' 0 4)]

/-- `0x` and the 4 digits of a readout word. -/
def renderHex16 (v : Half) : List Char :=
  ['0', 'x', hexChar (v.extractLsb' 12 4), hexChar (v.extractLsb' 8 4), hexChar (v.extractLsb' 4 4),
    hexChar (v.extractLsb' 0 4)]

/-- The text of an operation (R42, `wop`). -/
def renderWriteOp : WriteOp → List Char
  | .rst => ['R', 'S', 'T']
  | .berr => ['B', 'E', 'R', 'R']
  | .nop => ['N', 'O', 'P']
  | .cap w => ['C', 'A', 'P', ' '] ++ renderHex32 w
  | .capberr w => ['C', 'A', 'P', 'B', 'E', 'R', 'R', ' '] ++ renderHex32 w

/-- The text of a select name (R42, `sel`). -/
def renderSel : ReadSel → List Char
  | .probe => ['P', 'R', 'O', 'B', 'E']
  | .ref => ['R', 'E', 'F']
  | .fault => ['F', 'A', 'U', 'L', 'T']
  | .rawhi => ['R', 'A', 'W', 'H', 'I']
  | .rawlo => ['R', 'A', 'W', 'L', 'O']
  | .status => ['S', 'T', 'A', 'T', 'U', 'S']
  | .rsvd6 => ['R', 'S', 'V', 'D', '6']
  | .rsvd7 => ['R', 'S', 'V', 'D', '7']

/-- The text of an expectation (R42, `expect`). -/
def renderExpect : Option Expect → List Char
  | none => []
  | some x => [' ', '-', '>', ' '] ++ renderHex16 x.rdata ++ [' ', if x.rvalid then '1' else '0']

/-- The text of a line (R42), without a comment. -/
def renderLine (l : Line) : List Char :=
  match l.read with
  | none => renderWriteOp l.wop
  | some r => renderWriteOp l.wop ++ [',', ' ', 'R', 'D', ' '] ++ renderSel r ++ renderExpect l.expect

end Sys2Proof.Machine
end

