-- ==== Sys2Proof/Safety.lean ====
section
/-! DEFINITION. Runs, what they show, what a conforming host does, and what counts as safe, in the terms the statements
use (10_state.md R15, R16, R22, 41_frame_capture.md R66, R68, 42_readout_mux.md R79, 70_reset_and_hazards.md R94, R95). -/

namespace Sys2Proof.Machine

/-- `k` steps, stopping at the first that does not answer a next state. -/
def runSteps : Nat → State → Result
  | 0, s => .next s
  | k + 1, s =>
    match step s with
    | .next t => runSteps k t
    | .fault r => .fault r
    | .refused r => .refused r

/-- What the output ports show in each of the next `k` cycles (R18, R96). -/
def observations : Nat → State → List ReadWord
  | 0, _ => []
  | k + 1, s =>
    match step s with
    | .next t => t.observed :: observations k t
    | .fault _ => []
    | .refused _ => []

/-- The states reached from the first reset on: the reset state with any inputs to come, the state after any reset edge
whatever came before it, and every state a step leads to from one of these (R15, R22, R94). -/
inductive AfterReset : State → Prop where
  | reset (script : List Ports) (undriven : Nat) :
      AfterReset { State.reset with script := script, undriven := undriven }
  | rstEdge {s t : State} : s.ports.rst = true → step s = .next t → AfterReset t
  | step {s t : State} : AfterReset s → step s = .next t → AfterReset t

/-- The rules that hold in every state from the first reset on: VALID and BUSERR are never both 1 (R15); with both 0
there was no transaction since reset, so FRAME is still 0 (R15, R92); a read that is not valid shows 0x0000 (R70); and the
decoder's outputs are those of one frame word (R57). -/
structure State.Sound (s : State) : Prop where
  flagsExclusive : ¬(s.valid = true ∧ s.buserr = true)
  idleFrame : s.valid = false → s.buserr = false → s.frame = 0#32
  invalidReadsZero : s.rvalid = false → s.rdata = 0#16
  decoderCoherent : ∃ w : FrameWord, s.decoder = decoderOutputs w

/-- Two states that differ at most in what no output shows: the word in FRAME while VALID = 0, the decoder's outputs, and
what was read earlier (R16). -/
structure SameVisible (s t : State) : Prop where
  valid : s.valid = t.valid
  buserr : s.buserr = t.buserr
  frame : s.valid = true → s.frame = t.frame
  script : s.script = t.script
  undriven : s.undriven = t.undriven

/-- A cycle without a transaction and without a reset: its edge performs NOP (R65, R84). -/
def quiet (p : Ports) : Bool := !p.rst && !p.busErr && !p.frameWe

/-- A cycle whose edge performs RST, BERR or NOP, so that no frame is captured (R84). -/
def noCapture (p : Ports) : Bool := p.rst || p.busErr || !p.frameWe

/-- A cycle whose edge performs RST or NOP: neither a CAP nor a BERR (R84, R93). -/
def noTransaction (p : Ports) : Bool := p.rst || (!p.busErr && !p.frameWe)

/-- A select code a conforming host uses (R40, U2). -/
def assignedSel (sel : BitVec 3) : Bool := sel != 0b110#3 && sel != 0b111#3

/-- What the host's bus read gave in a cycle: no transaction, a frame, or a bus error (R66, R68). -/
inductive BusOutcome where
  | none
  | frame (w : FrameWord)
  | busError
deriving DecidableEq, Repr

/-- The host does its duty in a cycle: it applies no reset, presents a frame by CAP, every failed transaction by BERR, and
nothing where there is no transaction (R66, R95). -/
def presents (o : BusOutcome) (p : Ports) : Bool :=
  !p.rst &&
    match o with
    | .none => !p.busErr && !p.frameWe
    | .frame w => !p.busErr && p.frameWe && p.frameIn == w
    | .busError => p.busErr

/-- The outcome of the most recent transaction, `last` being the one before these (R13, R14, R68). -/
def lastOutcome (last : BusOutcome) : List BusOutcome → BusOutcome
  | [] => last
  | .none :: os => lastOutcome last os
  | .frame w :: os => lastOutcome (.frame w) os
  | .busError :: os => lastOutcome .busError os

/-- What the reporting sink receives (R68): nothing yet, a reading, or a bus error. -/
inductive Report where
  | noTransaction
  | reading (r : Reading)
  | busError
deriving DecidableEq, Repr

/-- The report the block's state tells (R68). Where both flags are 1, which only a state before the first reset can
show, VALID decides, as it does for the readout (log entry 10). -/
def State.report (s : State) : Report :=
  if s.valid then .reading (readingOf s.frame)
  else if s.buserr then .busError
  else .noTransaction

/-- The report of an outcome (R68). -/
def BusOutcome.report : BusOutcome → Report
  | .none => .noTransaction
  | .frame w => .reading (readingOf w)
  | .busError => .busError

/-- The reading a host assembles from the words of RD_PROBE, RD_REF and RD_FAULT (R71 to R73, R79). -/
def assembleReading (probe ref fault : Half) : Reading :=
  { probeQ := probe, refQ := ref, faultAny := fault.getLsbD 3, scv := fault.getLsbD 2, scg := fault.getLsbD 1,
    oc := fault.getLsbD 0 }

/-- A line's expectation agrees with what its cycle showed (R42). -/
def expectationMet (l : Line) (r : ReadWord) : Bool :=
  match l.expect with
  | none => true
  | some x => r.rdata == x.rdata && r.rvalid == x.rvalid

/-- A script run from `s` meets every expectation of its lines (R42). -/
def scriptMet : List Line → State → Bool
  | [], _ => true
  | l :: ls, s =>
    match step { s with script := [linePorts l] } with
    | .next t => expectationMet l t.observed && scriptMet ls t
    | .fault _ => false
    | .refused _ => false

end Sys2Proof.Machine
end

