-- ==== Sys2Proof/Certificates/Slice0/Obligations.lean ====
section
/-! DEFINITION. The statements for the provers, in the order of spec/: encodings, decoder, capture, readout, the cycle, and
runs of the block. -/

open Sys2Proof Sys2Proof.Machine

/-! Encodings (20_memory.md, 30_encoding.md) -/

/-- R26: `W = {B0, B1, B2, B3}`, and each byte is its slice of W. -/
def Obligations.FrameIsBigEndianBytes : Prop :=
  (∀ w : FrameWord, frameOfBytes (byte0 w) (byte1 w) (byte2 w) (byte3 w) = w) ∧
  (∀ b0 b1 b2 b3 : Byte,
    (frameOfBytes b0 b1 b2 b3).toNat = b0.toNat * 16777216 + b1.toNat * 65536 + b2.toNat * 256 + b3.toNat ∧
    byte0 (frameOfBytes b0 b1 b2 b3) = b0 ∧ byte1 (frameOfBytes b0 b1 b2 b3) = b1 ∧
    byte2 (frameOfBytes b0 b1 b2 b3) = b2 ∧ byte3 (frameOfBytes b0 b1 b2 b3) = b3)

/-- R27: the two windows are masked halves of W, the source's `+` never carries and equals the bitwise or, and the 16-bit
raw halves are `{B0, B1}` and `{B2, B3}`. -/
def Obligations.WindowsAreMaskedHalves : Prop :=
  ∀ w : FrameWord,
    probeWindow w = w.extractLsb' 16 16 &&& 0xFFFC#16 ∧
    probeWindow w = byte0 w ++ ((byte1 w).extractLsb' 2 6 ++ 0b00#2) ∧
    refWindow w = w.extractLsb' 0 16 &&& 0xFFF0#16 ∧
    refWindow w = byte2 w ++ ((byte3 w).extractLsb' 4 4 ++ 0x0#4) ∧
    (byte0 w).toNat * 256 + (byte1 w &&& 0xFC#8).toNat = (probeWindow w).toNat ∧
    (byte2 w).toNat * 256 + (byte3 w &&& 0xF0#8).toNat = (refWindow w).toNat ∧
    probeWindow w = ((byte0 w).setWidth 16 <<< 8) ||| (byte1 w &&& 0xFC#8).setWidth 16 ∧
    refWindow w = ((byte2 w).setWidth 16 <<< 8) ||| (byte3 w &&& 0xF0#8).setWidth 16 ∧
    w.extractLsb' 16 16 = byte0 w ++ byte1 w ∧
    w.extractLsb' 0 16 = byte2 w ++ byte3 w

/-- R38: CTRL is `{rst, bus_err, frame_we}`; exactly one of its four rows selects each value, and it is the row of the
operation decoded. -/
def Obligations.CtrlRowsDisjointAndTotal : Prop :=
  (∀ p : Ports, p.ctrl.getLsbD 2 = p.rst ∧ p.ctrl.getLsbD 1 = p.busErr ∧ p.ctrl.getLsbD 0 = p.frameWe) ∧
  ∀ (c : BitVec 3) (f : FrameWord),
    (ctrlRows.filter (fun r => r.selects c)).length = 1 ∧
    ((∃ e g, decodeCtrl c f = .rst e g) ↔ c &&& 0b100#3 = 0b100#3) ∧
    ((∃ g, decodeCtrl c f = .berr g) ↔ c &&& 0b110#3 = 0b010#3) ∧
    (decodeCtrl c f = .cap f ↔ c &&& 0b111#3 = 0b001#3) ∧
    (decodeCtrl c f = .nop ↔ c &&& 0b111#3 = 0b000#3)

/-- R39: each SEL value selects exactly one row, and its readout is the one the table names. -/
def Obligations.SelCodesNameTheirReadouts : Prop :=
  (∀ c : BitVec 3, (selRows.filter (fun r => r.selects c)).length = 1) ∧
  (List.range 8).map (fun n => decodeSel (BitVec.ofNat 3 n)) =
    [.rdProbe, .rdRef, .rdFault, .rdRawhi, .rdRawlo, .rdStatus, .rdRsvd6, .rdRsvd7]

/-- Decoding the bits of any well-formed operation gives it back; in the CTRL and SEL formats it is the only operation
those bits stand for, in the FRAME format it is one of the eleven that one word feeds. -/
def Obligations.DecodeOfEncode : Prop :=
  ∀ i : Instr, i.wellFormed = true →
    i ∈ decode (encode i) ∧
    ((∀ w, encode i ≠ .frame w) → decode (encode i) = [i]) ∧
    (∀ w, encode i = .frame w → i ∈ decodeFrame w ∧ (decodeFrame w).length = 11 ∧ (decodeFrame w).Nodup)

/-- Encoding an operation that some bits stand for gives those bits back, with `frame_in` cleared where no operation reads
it; so two operations of one CTRL or SEL value are equal and no bit of a format is dropped. The cleared `frame_in` is R41's
with `frame_we` = 0; with `frame_we` = 1 and not CAP it is the model's, DESIGN CHOICE of log entry 13. -/
def Obligations.EncodeOfDecode : Prop :=
  ∀ (c : Code) (i : Instr), i ∈ decode c → encode i = c.canonical

/-- R41: the CYC word and `frame_in` determine the cycle, and the cycle determines the CYC word, whose high bits are
the CTRL value and whose low bits are the SEL value. -/
def Obligations.CycWordRoundTrip : Prop :=
  (∀ p : Ports, portsOfCyc p.cyc p.frameIn = p ∧ p.cyc.extractLsb' 3 3 = p.ctrl ∧ p.cyc.extractLsb' 0 3 = p.sel) ∧
  (∀ (c : BitVec 6) (f : FrameWord), (portsOfCyc c f).cyc = c ∧ (portsOfCyc c f).frameIn = f)

/-- R44, R39: the CYC word of a script line, its select codes written out and each decoding to the readout of its name, and
the rule's own example. R42: a line without a read drives `sel` = 0b000, CAP and CAPBERR drive `frame_in` with their word.
R41: `frame_in` is 0 where `frame_we` = 0. -/
def Obligations.ScriptLineCycWord : Prop :=
  (∀ l : Line,
    (linePorts l).cyc.extractLsb' 3 3 = (match l.wop with
      | .rst => 0b100#3
      | .berr => 0b010#3
      | .cap _ => 0b001#3
      | .capberr _ => 0b011#3
      | .nop => 0b000#3) ∧
    (linePorts l).cyc.extractLsb' 0 3 = (match l.read with
      | none => 0b000#3
      | some .probe => 0b000#3
      | some .ref => 0b001#3
      | some .fault => 0b010#3
      | some .rawhi => 0b011#3
      | some .rawlo => 0b100#3
      | some .status => 0b101#3
      | some .rsvd6 => 0b110#3
      | some .rsvd7 => 0b111#3) ∧
    (linePorts l).frameIn = (match l.wop with
      | .rst => 0#32
      | .berr => 0#32
      | .cap w => w
      | .capberr w => w
      | .nop => 0#32) ∧
    (∀ r, l.read = some r → (linePorts l).cyc.extractLsb' 0 3 = selCode r) ∧
    (linePorts l).assembled = true) ∧
  decodeSel (selCode .probe) = .rdProbe ∧ decodeSel (selCode .ref) = .rdRef ∧ decodeSel (selCode .fault) = .rdFault ∧
  decodeSel (selCode .rawhi) = .rdRawhi ∧ decodeSel (selCode .rawlo) = .rdRawlo ∧
  decodeSel (selCode .status) = .rdStatus ∧ decodeSel (selCode .rsvd6) = .rdRsvd6 ∧
  decodeSel (selCode .rsvd7) = .rdRsvd7 ∧
  (linePorts ⟨.cap 0x19C00C00#32, some .status, none⟩).cyc = 0x0D#6 ∧
  (linePorts ⟨.cap 0x19C00C00#32, some .status, none⟩).frameIn = 0x19C00C00#32

/-- R42: the text of a well-formed script line is parsed back to the line. The text form of an expectation, the blanks and
the capitals are the model's choice (log entry 8). -/
def Obligations.ScriptTextRoundTrip : Prop :=
  ∀ l : Line, l.wellFormed = true → parseLine (renderLine l) = .ok l

/-- Words written out from the tables decode to their operations: SEL 0b101 (R39) and CTRL values (R38). The three clauses
about bare table words are no rule of the spec: how such a word is read is the model's choice, DESIGN CHOICE of log
entry 1. -/
def Obligations.SampleWordsDecode : Prop :=
  decode (.sel 0b101#3) = [.rdStatus] ∧ decode (.ctrl 0b011#3 0xFFFFFFFF#32) = [.berr true] ∧
  decode (.ctrl 0b001#3 0x19C00C00#32) = [.cap 0x19C00C00#32] ∧
  decodeTableWord 8 5 = some .rdStatus ∧ decodeTableWord 8 0x20 = some (.rst false false) ∧
  decodeTableWord 32 0x19C00C00 = some (.decode 0x19C00C00#32)

/-! The frame decoder (40_frame_decoder.md) -/

/-- R46: PROBE_FIELD gives `W[31:18]`, which is the source's shifted 16-bit window, and changes nothing else. -/
def Obligations.ProbeFieldResult : Prop :=
  ∀ (w : FrameWord) (s : State), ∃ f : BitVec 14,
    exec (.probeField w) s = .next { s with decoder := { s.decoder with probeRaw14 := f } } ∧
    (∀ i, i < 14 → f.getLsbD i = w.getLsbD (i + 18)) ∧
    f.toNat = ((byte0 w).toNat * 256 + (byte1 w &&& 0xFC#8).toNat) / 4 ∧
    f.toNat ≤ 16383

/-- R47: PROBE_SEXT tests bit 13 of the field (W[31]) and fills with 0xC000; the count is the field read in two's
complement, in -8192 to 8191; nothing else changes. -/
def Obligations.ProbeSextResult : Prop :=
  ∀ (w : FrameWord) (s : State), ∃ (f : BitVec 14) (q : Half),
    (∀ i, i < 14 → f.getLsbD i = w.getLsbD (i + 18)) ∧
    exec (.probeSext w) s = .next { s with decoder := { s.decoder with probeQ := q } } ∧
    q = (if f.getLsbD 13 then f.setWidth 16 ||| 0xC000#16 else f.setWidth 16) ∧
    f.getLsbD 13 = w.getLsbD 31 ∧
    q.toInt = (if w.getLsbD 31 then (f.toNat : Int) - 16384 else (f.toNat : Int)) ∧
    -8192 ≤ q.toInt ∧ q.toInt ≤ 8191

/-- R48: PROBE_SCALE gives the exact rational `sint(probe_q) / 4`, in -2048 to 2047.75, and changes nothing else. -/
def Obligations.ProbeScaleResult : Prop :=
  ∀ (w : FrameWord) (s : State), ∃ (f : BitVec 14) (t : Rat),
    (∀ i, i < 14 → f.getLsbD i = w.getLsbD (i + 18)) ∧
    exec (.probeScale w) s = .next { s with decoder := { s.decoder with probeTemperature := t } } ∧
    t = (((if w.getLsbD 31 then (f.toNat : Int) - 16384 else (f.toNat : Int)) : Int) : Rat) / 4 ∧
    -2048 ≤ t ∧ t ≤ 8191 / 4

/-- R49: REF_FIELD gives `W[15:4]`, which is the source's shifted 16-bit window, and changes nothing else. -/
def Obligations.RefFieldResult : Prop :=
  ∀ (w : FrameWord) (s : State), ∃ f : BitVec 12,
    exec (.refField w) s = .next { s with decoder := { s.decoder with refRaw12 := f } } ∧
    (∀ i, i < 12 → f.getLsbD i = w.getLsbD (i + 4)) ∧
    f.toNat = ((byte2 w).toNat * 256 + (byte3 w &&& 0xF0#8).toNat) / 16 ∧
    f.toNat ≤ 4095

/-- R50: REF_SEXT tests bit 11 of the field (W[15]) and fills with 0xF000; the count is the field read in two's
complement, in -2048 to 2047; nothing else changes. -/
def Obligations.RefSextResult : Prop :=
  ∀ (w : FrameWord) (s : State), ∃ (f : BitVec 12) (q : Half),
    (∀ i, i < 12 → f.getLsbD i = w.getLsbD (i + 4)) ∧
    exec (.refSext w) s = .next { s with decoder := { s.decoder with refQ := q } } ∧
    q = (if f.getLsbD 11 then f.setWidth 16 ||| 0xF000#16 else f.setWidth 16) ∧
    f.getLsbD 11 = w.getLsbD 15 ∧
    q.toInt = (if w.getLsbD 15 then (f.toNat : Int) - 4096 else (f.toNat : Int)) ∧
    -2048 ≤ q.toInt ∧ q.toInt ≤ 2047

/-- R51: REF_SCALE gives the exact rational `sint(ref_q) / 16`, in -128 to 127.9375, and changes nothing else. -/
def Obligations.RefScaleResult : Prop :=
  ∀ (w : FrameWord) (s : State), ∃ (f : BitVec 12) (t : Rat),
    (∀ i, i < 12 → f.getLsbD i = w.getLsbD (i + 4)) ∧
    exec (.refScale w) s = .next { s with decoder := { s.decoder with refTemperature := t } } ∧
    t = (((if w.getLsbD 15 then (f.toNat : Int) - 4096 else (f.toNat : Int)) : Int) : Rat) / 16 ∧
    -128 ≤ t ∧ t ≤ 2047 / 16

/-- R52 to R55: the four fault indicators are B3[2], B3[1], B3[0] and B1[0]; each operation shows its own and changes
nothing else. -/
def Obligations.FaultIndicatorResults : Prop :=
  ∀ (w : FrameWord) (s : State),
    exec (.faultScv w) s = .next { s with decoder := { s.decoder with scv := (byte3 w).getLsbD 2 } } ∧
    exec (.faultScg w) s = .next { s with decoder := { s.decoder with scg := (byte3 w).getLsbD 1 } } ∧
    exec (.faultOc w) s = .next { s with decoder := { s.decoder with oc := (byte3 w).getLsbD 0 } } ∧
    exec (.faultAgg w) s = .next { s with decoder := { s.decoder with faultAny := (byte1 w).getLsbD 0 } }

/-- R57: DECODE gives the six fields of the reading and changes nothing else; the counts are the signed halves of W
shifted down arithmetically by the field's position. -/
def Obligations.DecodeResult : Prop :=
  ∀ (w : FrameWord) (s : State), ∃ r : Reading,
    exec (.decode w) s = .next { s with decoder := { s.decoder with reading := r } } ∧
    r.probeQ = (w.extractLsb' 18 14).signExtend 16 ∧ r.refQ = (w.extractLsb' 4 12).signExtend 16 ∧
    r.scv = w.getLsbD 2 ∧ r.scg = w.getLsbD 1 ∧ r.oc = w.getLsbD 0 ∧ r.faultAny = w.getLsbD 16 ∧
    r.probeQ.toInt = w.toInt / 262144 ∧ r.refQ.toInt = (w.setWidth 16).toInt / 16

/-- R37, R57: two frames decode to the same reading exactly when they agree on every bit but W[17] and W[3]. -/
def Obligations.DecodeIgnoresExactlyTheUnusedBits : Prop :=
  ∀ (w w' : FrameWord) (s : State),
    exec (.decode w) s = exec (.decode w') s ↔ w &&& 0xFFFDFFF7#32 = w' &&& 0xFFFDFFF7#32

/-- R56: putting any combination on W[16], W[2], W[1], W[0] gives a reading with exactly that combination and the same
temperatures. -/
def Obligations.FaultBitsAreIndependent : Prop :=
  ∀ (w : FrameWord) (a v g o : Bool) (s : State),
    exec (.decode (w.extractLsb' 17 15 ++ BitVec.ofBool a ++ w.extractLsb' 3 13 ++ BitVec.ofBool v ++ BitVec.ofBool g ++
      BitVec.ofBool o)) s =
      .next { s with decoder := { s.decoder with reading :=
        { probeQ := (w.extractLsb' 18 14).signExtend 16, refQ := (w.extractLsb' 4 12).signExtend 16, scv := v, scg := g,
          oc := o, faultAny := a } } }

/-- R58: every count lies in its field's signed range, and every integer in that range is the count of each frame that
carries its two's-complement pattern, whatever the other bits; its temperature is exactly that integer over 4 or 16. -/
def Obligations.IntegerRoundTrip : Prop :=
  (∀ (w : FrameWord) (s : State), ∃ t u : State,
    exec (.probeSext w) s = .next t ∧ -8192 ≤ t.decoder.probeQ.toInt ∧ t.decoder.probeQ.toInt ≤ 8191 ∧
    exec (.refSext w) s = .next u ∧ -2048 ≤ u.decoder.refQ.toInt ∧ u.decoder.refQ.toInt ≤ 2047) ∧
  (∀ (n : Int) (w : FrameWord) (s : State), -8192 ≤ n → n ≤ 8191 → w.extractLsb' 18 14 = BitVec.ofInt 14 n →
    ∃ t u : State, exec (.probeSext w) s = .next t ∧ t.decoder.probeQ.toInt = n ∧
      exec (.probeScale w) s = .next u ∧ u.decoder.probeTemperature = (n : Rat) / 4) ∧
  (∀ (n : Int) (w : FrameWord) (s : State), -2048 ≤ n → n ≤ 2047 → w.extractLsb' 4 12 = BitVec.ofInt 12 n →
    ∃ t u : State, exec (.refSext w) s = .next t ∧ t.decoder.refQ.toInt = n ∧
      exec (.refScale w) s = .next u ∧ u.decoder.refTemperature = (n : Rat) / 16)

/-- R60: the probe operations see only W[31:18] and the reference operations only W[15:4]. -/
def Obligations.ProbeAndReferenceAreIndependent : Prop :=
  ∀ (w w' : FrameWord) (s : State),
    (w.extractLsb' 18 14 = w'.extractLsb' 18 14 →
      exec (.probeField w) s = exec (.probeField w') s ∧ exec (.probeSext w) s = exec (.probeSext w') s ∧
      exec (.probeScale w) s = exec (.probeScale w') s) ∧
    (w.extractLsb' 4 12 = w'.extractLsb' 4 12 →
      exec (.refField w) s = exec (.refField w') s ∧ exec (.refSext w) s = exec (.refSext w') s ∧
      exec (.refScale w) s = exec (.refScale w') s)

/-- R45: each of the eleven decoder operations completes in every state, touches nothing but the decoder's outputs (the
model's record of them, log entry 3), and what it shows does not depend on FRAME, VALID, BUSERR or the ports. -/
def Obligations.DecoderOperationsAreStateless : Prop :=
  ∀ (w : FrameWord) (i : Instr), i ∈ decodeFrame w → ∀ s : State, ∃ d : DecoderOutputs,
    exec i s = .next { s with decoder := d } ∧
    ∀ s' : State, s'.decoder = s.decoder → exec i s' = .next { s' with decoder := d }

/-! Capture, bus error, reset (41_frame_capture.md, 70_reset_and_hazards.md) -/

/-- R62: CAP writes FRAME, sets VALID, clears BUSERR, and changes nothing else. -/
def Obligations.CapResult : Prop :=
  ∀ (w : FrameWord) (s : State), exec (.cap w) s = .next { s with frame := w, valid := true, buserr := false }

/-- R63, R64: BERR clears VALID, sets BUSERR and keeps FRAME, whether `frame_we` is 0 or 1, and changes nothing else; every
data select then reads 0x0000 with `rvalid` = 0, STATUS reads 0x0002, and a second BERR leaves the same state. -/
def Obligations.BerrResult : Prop :=
  ∀ (f g : Bool) (s : State), ∃ t : State,
    exec (.berr f) s = .next t ∧ t = { s with valid := false, buserr := true } ∧ exec (.berr g) t = .next t ∧
    (∀ sel : BitVec 3, sel.toNat ≤ 4 → readout t sel = { rdata := 0x0000#16, rvalid := false }) ∧
    readout t 0b101#3 = { rdata := 0x0002#16, rvalid := true }

/-- R65: NOP changes nothing. -/
def Obligations.NopResult : Prop :=
  ∀ s : State, exec .nop s = .next s

/-- R92: RST writes FRAME = 0x00000000, VALID = 0, BUSERR = 0, the values of the reset state, whatever the other two
inputs are, and changes nothing else. -/
def Obligations.RstResult : Prop :=
  ∀ (e f : Bool) (s : State),
    exec (.rst e f) s = .next { s with frame := 0x00000000#32, valid := false, buserr := false } ∧
    State.reset.frame = 0x00000000#32 ∧ State.reset.valid = false ∧ State.reset.buserr = false

/-- R12 to R14: which operations change FRAME, VALID and BUSERR, over all operations. -/
def Obligations.OnlyCaptureOperationsWriteState : Prop :=
  ∀ (i : Instr) (s t : State), exec i s = .next t →
    (t.frame ≠ s.frame → i = .cap t.frame ∨ ((∃ e f, i = .rst e f) ∧ t.frame = 0#32)) ∧
    (t.valid ≠ s.valid →
      (∃ w, i = .cap w ∧ t.valid = true) ∨ ((∃ f, i = .berr f) ∨ (∃ e f, i = .rst e f)) ∧ t.valid = false) ∧
    (t.buserr ≠ s.buserr →
      (∃ f, i = .berr f ∧ t.buserr = true) ∨ ((∃ w, i = .cap w) ∨ (∃ e f, i = .rst e f)) ∧ t.buserr = false) ∧
    t.script = s.script ∧ t.undriven = s.undriven

/-! The readout (42_readout_mux.md) -/

/-- R71: RD_PROBE reads the probe count while VALID = 1 and 0x0000 with `rvalid` = 0 otherwise; the count lies in
-8192 to 8191 and bits 15 to 13 are copies of the sign; nothing else changes. -/
def Obligations.RdProbeResult : Prop :=
  ∀ s : State, ∃ d : Half,
    exec .rdProbe s = .next { s with rdata := d, rvalid := s.valid } ∧
    d = (if s.valid then (s.frame.extractLsb' 18 14).signExtend 16 else 0x0000#16) ∧
    -8192 ≤ d.toInt ∧ d.toInt ≤ 8191 ∧ d.getLsbD 15 = d.getLsbD 14 ∧ d.getLsbD 14 = d.getLsbD 13

/-- R72: RD_REF reads the reference count while VALID = 1 and 0x0000 with `rvalid` = 0 otherwise; the count lies in
-2048 to 2047 and bits 15 to 11 are copies of the sign; nothing else changes. -/
def Obligations.RdRefResult : Prop :=
  ∀ s : State, ∃ d : Half,
    exec .rdRef s = .next { s with rdata := d, rvalid := s.valid } ∧
    d = (if s.valid then (s.frame.extractLsb' 4 12).signExtend 16 else 0x0000#16) ∧
    -2048 ≤ d.toInt ∧ d.toInt ≤ 2047 ∧ (∀ i, 11 ≤ i → i < 16 → d.getLsbD i = d.getLsbD 15)

/-- R73: the bits of the fault word, gated by VALID; nothing else changes. -/
def Obligations.RdFaultResult : Prop :=
  ∀ s : State, ∃ d : Half,
    exec .rdFault s = .next { s with rdata := d, rvalid := s.valid } ∧
    d.getLsbD 3 = (s.valid && s.frame.getLsbD 16) ∧ d.getLsbD 2 = (s.valid && s.frame.getLsbD 2) ∧
    d.getLsbD 1 = (s.valid && s.frame.getLsbD 1) ∧ d.getLsbD 0 = (s.valid && s.frame.getLsbD 0) ∧
    (∀ i, 4 ≤ i → d.getLsbD i = false)

/-- R74, R75: the raw halves of the frame, `{B0, B1}` and `{B2, B3}`, gated by VALID; nothing else changes. -/
def Obligations.RdRawResults : Prop :=
  ∀ s : State,
    exec .rdRawhi s = .next { s with
      rdata := if s.valid then byte0 s.frame ++ byte1 s.frame else 0x0000#16, rvalid := s.valid } ∧
    exec .rdRawlo s = .next { s with
      rdata := if s.valid then byte2 s.frame ++ byte3 s.frame else 0x0000#16, rvalid := s.valid }

/-- R76: RD_STATUS reads BUSERR in bit 1 and VALID in bit 0 with `rvalid` = 1, never gated; nothing else changes; in a
sound state, as every state from the first reset on is, it reads 0x0000, 0x0001 or 0x0002. -/
def Obligations.RdStatusResult : Prop :=
  ∀ s : State, ∃ d : Half,
    exec .rdStatus s = .next { s with rdata := d, rvalid := true } ∧
    d.getLsbD 0 = s.valid ∧ d.getLsbD 1 = s.buserr ∧ (∀ i, 2 ≤ i → d.getLsbD i = false) ∧
    (s.Sound → d = 0x0000#16 ∨ d = 0x0001#16 ∨ d = 0x0002#16)

/-- R77, R78: the reserved codes read 0x0000 with `rvalid` = 0 in every state; nothing else changes. -/
def Obligations.RdReservedResults : Prop :=
  ∀ s : State,
    exec .rdRsvd6 s = .next { s with rdata := 0x0000#16, rvalid := false } ∧
    exec .rdRsvd7 s = .next { s with rdata := 0x0000#16, rvalid := false }

/-- R70: the operation of every select code drives one readout word and writes no state; the word depends on FRAME, VALID
and BUSERR alone; every data select is gated by VALID; STATUS is always and the reserved codes are never valid. -/
def Obligations.ReadoutIsGated : Prop :=
  ∀ (s : State) (sel : BitVec 3), ∃ r : ReadWord,
    exec (decodeSel sel) s = .next { s with rdata := r.rdata, rvalid := r.rvalid } ∧
    (∀ s' : State, s'.frame = s.frame → s'.valid = s.valid → s'.buserr = s.buserr →
      exec (decodeSel sel) s' = .next { s' with rdata := r.rdata, rvalid := r.rvalid }) ∧
    (sel.toNat ≤ 4 → r.rvalid = s.valid) ∧
    (sel.toNat = 5 → r.rvalid = true) ∧
    (assignedSel sel = false → r.rvalid = false) ∧
    (r.rvalid = false → r.rdata = 0#16)

/-! One clock cycle (60_exceptions.md, 70_reset_and_hazards.md) -/

/-- R80, R85: no operation and no step fails, in any state. -/
def Obligations.NothingFails : Prop :=
  (∀ (i : Instr) (s : State), ∃ t, exec i s = .next t) ∧ (∀ s : State, ∃ t, step s = .next t)

/-- A step runs the operations its cycle decodes to: the eleven decoder operations on FRAME, then the readout of `sel`, then
the operation of the CTRL value; around them it uses up one cycle of the host's inputs and changes nothing else. What the
bits decode to is R35, R38 and R39. The rest is the model's: that the inputs stand in a script and one cycle of it is used
up is log entry 2 (DESIGN CHOICE), that the decoder's results are recorded in the state is log entry 3 (DESIGN CHOICE), and
the order of the operations inside a cycle is log entry 4 (DEDUCED). -/
def Obligations.StepRunsTheDecodedOperations : Prop :=
  ∀ s : State, ∃ t u v : State,
    t = { s.nextCycle with decoder := decoderOutputs s.frame } ∧
    (∀ i ∈ decode (.frame s.frame), exec i t = .next t) ∧
    execSeq (decode (.frame s.frame)) s.nextCycle = .next t ∧
    exec (decodeSel s.ports.sel) t = .next u ∧
    exec (decodeCtrl s.ports.ctrl s.ports.frameIn) u = .next v ∧
    step s = .next v ∧
    s.nextCycle.frame = s.frame ∧ s.nextCycle.valid = s.valid ∧ s.nextCycle.buserr = s.buserr ∧
    s.nextCycle.script = s.script.tail

/-- A table word placed for the next step is among the operations that step runs; nothing else of the state changes but
FRAME for a 32-bit word and one cycle in front of the script (the model's reading of table words, log entry 1). -/
def Obligations.PlacedWordIsRunNext : Prop :=
  ∀ (s : State) (nbits w : Nat) (i : Instr), decodeTableWord nbits w = some i →
    i ∈ cycleInstrs (s.withFetchWord nbits w).frame (s.withFetchWord nbits w).ports ∧
    step (s.withFetchWord nbits w) =
      execSeq (cycleInstrs (s.withFetchWord nbits w).frame (s.withFetchWord nbits w).ports)
        (s.withFetchWord nbits w).nextCycle ∧
    (s.withFetchWord nbits w).script = (s.withFetchWord nbits w).ports :: s.script ∧
    (nbits ≠ 32 → (s.withFetchWord nbits w).frame = s.frame) ∧
    s.withFetchWord nbits w =
      { s with frame := (s.withFetchWord nbits w).frame, script := (s.withFetchWord nbits w).script }

/-- R84: at an edge exactly one operation takes effect, RST over BERR over CAP over NOP; the readout sees the state before
the edge. -/
def Obligations.EdgePriority : Prop :=
  ∀ s : State, ∃ t : State, step s = .next t ∧ t.observed = readout s s.ports.sel ∧
    (if s.ports.rst = true then t.frame = 0#32 ∧ t.valid = false ∧ t.buserr = false
     else if s.ports.busErr = true then t.frame = s.frame ∧ t.valid = false ∧ t.buserr = true
     else if s.ports.frameWe = true then t.frame = s.ports.frameIn ∧ t.valid = true ∧ t.buserr = false
     else t.frame = s.frame ∧ t.valid = s.valid ∧ t.buserr = s.buserr)

/-- R96: a read sees the state before the edge that ends its cycle, whatever that edge performs; the new state is read
from the next cycle on, and after a CAP edge every select shows the new frame. -/
def Obligations.NewStateReadableNextCycle : Prop :=
  ∀ (s : State) (p q : Ports) (rest : List Ports), s.script = p :: q :: rest →
    ∃ t : State, step s = .next t ∧ observations 2 s = [readout s p.sel, readout t q.sel] ∧
      (p.rst = false → p.busErr = false → p.frameWe = true →
        readout t q.sel = readout { s with frame := p.frameIn, valid := true, buserr := false } q.sel)

/-- R23: at an edge that performs no CAP the value on `frame_in` has no effect on any state or output, and `sel` has no
effect on the state, only on what its own cycle shows. -/
def Obligations.IgnoredInputsHaveNoEffect : Prop :=
  (∀ (s : State) (p : Ports) (x : FrameWord) (rest : List Ports), noCapture p = true →
    step { s with script := p :: rest } = step { s with script := { p with frameIn := x } :: rest }) ∧
  (∀ (s : State) (p : Ports) (x : BitVec 3) (rest : List Ports), ∃ t u : State,
    step { s with script := p :: rest } = .next t ∧ step { s with script := { p with sel := x } :: rest } = .next u ∧
    u = { t with rdata := u.rdata, rvalid := u.rvalid })

/-! Runs of the block -/

/-- Every step keeps the rules of a state after reset: the flags exclusive, FRAME zero before any transaction, invalid reads
zero, the decoder's outputs those of one word. The recorded outputs that the last two rules speak of are the model's own fields (log
entry 3). -/
def Obligations.StepKeepsSound : Prop :=
  ∀ s t : State, s.Sound → step s = .next t → t.Sound

/-- The reset state has them, whatever inputs are to come. The two rules about FRAME, VALID and BUSERR follow from their
reset values (R12 to R14). The two about the recorded read and the recorded decoder outputs rest on the values the model
chose for its own fields at reset, DESIGN CHOICE of log entry 3, and the script and its counter are those of log entry 2. -/
def Obligations.ResetIsSound : Prop :=
  ∀ (script : List Ports) (undriven : Nat), ({ State.reset with script := script, undriven := undriven } : State).Sound

/-- R15: in every state from the first reset on, also one reached by a reset edge from an unspecified state, VALID and
BUSERR are never both 1, and the other rules of `State.Sound` hold. For the recorded read and the recorded decoder outputs
this starts from the values the model chose for its own fields at reset, DESIGN CHOICE of log entry 3. -/
def Obligations.SoundFromFirstReset : Prop :=
  ∀ s : State, AfterReset s → s.Sound ∧ statusWord s.buserr s.valid ≠ 0x0003#16

/-- R92, R94, R22: from any state, the unspecified one before the first reset included, any number n ≥ 1 of reset edges
leaves the reset values. -/
def Obligations.ResetEdgesEstablishReset : Prop :=
  ∀ (s : State) (p : Ports) (ps rest : List Ports), s.script = (p :: ps) ++ rest → (∀ q ∈ p :: ps, q.rst = true) →
    ∃ t : State, runSteps (ps.length + 1) s = .next t ∧ t.frame = State.reset.frame ∧ t.valid = State.reset.valid ∧
      t.buserr = State.reset.buserr ∧ t.script = rest

/-- R94, R22: one reset edge ends the unspecified state before the first reset, whatever it is. -/
def Obligations.BootEndsUnspecifiedState : Prop :=
  ∀ (p : Ports) (rest : List Ports), p.rst = true →
    ∃ t : State, step { State.powerUp with script := p :: rest } = .next t ∧ AfterReset t ∧
      t.frame = 0x00000000#32 ∧ t.valid = false ∧ t.buserr = false ∧ t.script = rest

/-- R93: from the edge that performs RST until the first CAP or BERR every data select reads 0x0000 with `rvalid` = 0 and
STATUS reads 0x0000 with `rvalid` = 1. The last cycle may perform anything: a cycle that ends in the first CAP or BERR edge
still reads the reset state (R96). -/
def Obligations.ReadsAfterReset : Prop :=
  ∀ (s : State) (p : Ports) (ps rest : List Ports), s.script = p :: (ps ++ rest) → p.rst = true →
    (∀ q ∈ ps.dropLast, noTransaction q = true) →
    observations (ps.length + 1) s =
      readout s p.sel :: ps.map (fun q => { rdata := 0x0000#16, rvalid := q.sel == 0b101#3 })

/-- R63, R70: after a BERR, and in every state with VALID = 0, no cycle shows a reading until the next CAP: every data
select reads 0x0000 with `rvalid` = 0 however many bus errors, resets and idle cycles follow, the cycle that ends in the
CAP edge included (R96); and VALID stays 0 while no CAP is performed. -/
def Obligations.NoReadingUntilNextCapture : Prop :=
  ∀ (s : State) (ps rest : List Ports), s.script = ps ++ rest → s.valid = false →
    (∀ q ∈ ps.dropLast, noCapture q = true) →
    (∀ (k : Nat) (q : Ports), ps[k]? = some q → q.sel.toNat ≤ 4 →
      (observations ps.length s)[k]? = some { rdata := 0x0000#16, rvalid := false }) ∧
    ((∀ q ∈ ps, noCapture q = true) → ∃ t : State, runSteps ps.length s = .next t ∧ t.valid = false)

/-- R65, R79: idle cycles keep the state, and each shows the readout of that one state; so does the cycle whose own edge is
the first that is not idle (R96). -/
def Obligations.IdleCyclesKeepReading : Prop :=
  ∀ (s : State) (ps rest : List Ports), s.script = ps ++ rest → (∀ q ∈ ps.dropLast, quiet q = true) →
    observations ps.length s = ps.map (fun q => readout s q.sel) ∧
    ((∀ q ∈ ps, quiet q = true) →
      ∃ t : State, runSteps ps.length s = .next t ∧ t.frame = s.frame ∧ t.valid = s.valid ∧ t.buserr = s.buserr ∧
        t.script = rest)

/-- R79: the probe, reference and fault words a host reads in any order in a run of cycles with only idle edges between them
assemble to the reading of one frame; the edge of the last cycle may perform anything. -/
def Obligations.SnapshotReadIsOneReading : Prop :=
  ∀ (s : State) (ps rest : List Ports) (i j k : Nat) (p q r : Ports), s.script = ps ++ rest →
    (∀ x ∈ ps.dropLast, quiet x = true) → s.valid = true →
    ps[i]? = some p → p.sel = 0b000#3 → ps[j]? = some q → q.sel = 0b001#3 → ps[k]? = some r → r.sel = 0b010#3 →
    ∃ a b c : ReadWord, (observations ps.length s)[i]? = some a ∧ (observations ps.length s)[j]? = some b ∧
      (observations ps.length s)[k]? = some c ∧ a.rvalid = true ∧ b.rvalid = true ∧ c.rvalid = true ∧
      assembleReading a.rdata b.rdata c.rdata = readingOf s.frame

/-- R16, as a step lemma: two blocks that differ only in the word in FRAME while VALID = 0 (and in the model's records of
past outputs, log entry 3) show the same in the next cycle, and again differ in no more than that. -/
def Obligations.StepKeepsSameVisible : Prop :=
  ∀ s t s' t' : State, SameVisible s t → step s = .next s' → step t = .next t' →
    s'.observed = t'.observed ∧ SameVisible s' t'

/-- R16: what FRAME holds while VALID = 0 is shown by no output, now or later: two blocks that differ only in it show the
same in every cycle of every run. -/
def Obligations.HiddenFrameIsNeverShown : Prop :=
  ∀ s t : State, SameVisible s t → ∀ k : Nat, observations k s = observations k t

/-- R68, R13, R14: with a host that does its duty (R66, R95), the block's report after any run of transactions is the outcome
of the most recent one: a reading of its frame, or a bus error. A state with VALID = BUSERR = 1, possible only before the
first reset, is not excluded; its report is that of log entry 10 (DEDUCED). -/
def Obligations.ReportIsLastOutcome : Prop :=
  ∀ (cycles : List (BusOutcome × Ports)) (rest : List Ports) (s : State) (last : BusOutcome),
    s.script = cycles.map Prod.snd ++ rest → (∀ c ∈ cycles, presents c.1 c.2 = true) → s.report = last.report →
    ∃ t : State, runSteps cycles.length s = .next t ∧
      t.report = (lastOutcome last (cycles.map Prod.fst)).report

/-- R68, R76: in a state after reset the STATUS word tells which report the state gives: 0x0000 no transaction, 0x0001
a reading, 0x0002 a bus error. -/
def Obligations.StatusTellsReport : Prop :=
  ∀ s : State, s.Sound →
    (readout s 0b101#3 = { rdata := 0x0000#16, rvalid := true } ↔ s.report = .noTransaction) ∧
    (readout s 0b101#3 = { rdata := 0x0001#16, rvalid := true } ↔ ∃ r, s.report = .reading r) ∧
    (readout s 0b101#3 = { rdata := 0x0002#16, rvalid := true } ↔ s.report = .busError)

/-- R42, R96: a script run line by line meets its expectations exactly when the observations of the whole script, placed as
the inputs of the coming cycles, do; and each expectation is met exactly when its `rdata` and `rvalid` are the readout of
the state before its line's edge, for the select code of the line's read. -/
def Obligations.ScriptRunsAsItsCycles : Prop :=
  (∀ (ls : List Line) (s : State),
    scriptMet ls s = (List.zipWith expectationMet ls (observations ls.length (s.withScript ls))).all id) ∧
  (∀ s : State, scriptMet [] s = true) ∧
  (∀ (l : Line) (ls : List Line) (s : State), ∃ t : State,
    step { s with script := [linePorts l] } = .next t ∧
    (scriptMet (l :: ls) s = true ↔
      (∀ x, l.expect = some x → (readout s (linePorts l).sel).rdata = x.rdata ∧
        (readout s (linePorts l).sel).rvalid = x.rvalid) ∧
      scriptMet ls t = true)) ∧
  (∀ (l : Line) (r : ReadSel), l.read = some r → decodeSel (linePorts l).sel = decodeSel (selCode r))
end

