-- ==== Sys2Proof/Laws/State.lean ====
section
/-! SUPPORT. What each update of the state does to each field. -/

namespace Sys2Proof.Machine

@[simp] theorem State.setFrame_frame (s : State) (w : FrameWord) : (s.setFrame w).frame = w := rfl
@[simp] theorem State.setFrame_valid (s : State) (w : FrameWord) : (s.setFrame w).valid = s.valid := rfl
@[simp] theorem State.setFrame_buserr (s : State) (w : FrameWord) : (s.setFrame w).buserr = s.buserr := rfl
@[simp] theorem State.setFrame_rdata (s : State) (w : FrameWord) : (s.setFrame w).rdata = s.rdata := rfl
@[simp] theorem State.setFrame_rvalid (s : State) (w : FrameWord) : (s.setFrame w).rvalid = s.rvalid := rfl
@[simp] theorem State.setFrame_decoder (s : State) (w : FrameWord) : (s.setFrame w).decoder = s.decoder := rfl
@[simp] theorem State.setFrame_script (s : State) (w : FrameWord) : (s.setFrame w).script = s.script := rfl
@[simp] theorem State.setFrame_undriven (s : State) (w : FrameWord) : (s.setFrame w).undriven = s.undriven := rfl

@[simp] theorem State.setFlags_frame (s : State) (v b : Bool) : (s.setFlags v b).frame = s.frame := rfl
@[simp] theorem State.setFlags_valid (s : State) (v b : Bool) : (s.setFlags v b).valid = v := rfl
@[simp] theorem State.setFlags_buserr (s : State) (v b : Bool) : (s.setFlags v b).buserr = b := rfl
@[simp] theorem State.setFlags_rdata (s : State) (v b : Bool) : (s.setFlags v b).rdata = s.rdata := rfl
@[simp] theorem State.setFlags_rvalid (s : State) (v b : Bool) : (s.setFlags v b).rvalid = s.rvalid := rfl
@[simp] theorem State.setFlags_decoder (s : State) (v b : Bool) : (s.setFlags v b).decoder = s.decoder := rfl
@[simp] theorem State.setFlags_script (s : State) (v b : Bool) : (s.setFlags v b).script = s.script := rfl
@[simp] theorem State.setFlags_undriven (s : State) (v b : Bool) : (s.setFlags v b).undriven = s.undriven := rfl

@[simp] theorem State.setOutputs_frame (s : State) (r : ReadWord) : (s.setOutputs r).frame = s.frame := rfl
@[simp] theorem State.setOutputs_valid (s : State) (r : ReadWord) : (s.setOutputs r).valid = s.valid := rfl
@[simp] theorem State.setOutputs_buserr (s : State) (r : ReadWord) : (s.setOutputs r).buserr = s.buserr := rfl
@[simp] theorem State.setOutputs_rdata (s : State) (r : ReadWord) : (s.setOutputs r).rdata = r.rdata := rfl
@[simp] theorem State.setOutputs_rvalid (s : State) (r : ReadWord) : (s.setOutputs r).rvalid = r.rvalid := rfl
@[simp] theorem State.setOutputs_decoder (s : State) (r : ReadWord) : (s.setOutputs r).decoder = s.decoder := rfl
@[simp] theorem State.setOutputs_script (s : State) (r : ReadWord) : (s.setOutputs r).script = s.script := rfl
@[simp] theorem State.setOutputs_undriven (s : State) (r : ReadWord) : (s.setOutputs r).undriven = s.undriven := rfl

@[simp] theorem State.setDecoder_frame (s : State) (d : DecoderOutputs) : (s.setDecoder d).frame = s.frame := rfl
@[simp] theorem State.setDecoder_valid (s : State) (d : DecoderOutputs) : (s.setDecoder d).valid = s.valid := rfl
@[simp] theorem State.setDecoder_buserr (s : State) (d : DecoderOutputs) : (s.setDecoder d).buserr = s.buserr := rfl
@[simp] theorem State.setDecoder_rdata (s : State) (d : DecoderOutputs) : (s.setDecoder d).rdata = s.rdata := rfl
@[simp] theorem State.setDecoder_rvalid (s : State) (d : DecoderOutputs) : (s.setDecoder d).rvalid = s.rvalid := rfl
@[simp] theorem State.setDecoder_decoder (s : State) (d : DecoderOutputs) : (s.setDecoder d).decoder = d := rfl
@[simp] theorem State.setDecoder_script (s : State) (d : DecoderOutputs) : (s.setDecoder d).script = s.script := rfl
@[simp] theorem State.setDecoder_undriven (s : State) (d : DecoderOutputs) : (s.setDecoder d).undriven = s.undriven := rfl

@[simp] theorem State.nextCycle_frame (s : State) : s.nextCycle.frame = s.frame := rfl
@[simp] theorem State.nextCycle_valid (s : State) : s.nextCycle.valid = s.valid := rfl
@[simp] theorem State.nextCycle_buserr (s : State) : s.nextCycle.buserr = s.buserr := rfl
@[simp] theorem State.nextCycle_rdata (s : State) : s.nextCycle.rdata = s.rdata := rfl
@[simp] theorem State.nextCycle_rvalid (s : State) : s.nextCycle.rvalid = s.rvalid := rfl
@[simp] theorem State.nextCycle_decoder (s : State) : s.nextCycle.decoder = s.decoder := rfl
@[simp] theorem State.nextCycle_script (s : State) : s.nextCycle.script = s.script.tail := rfl

theorem State.nextCycle_undriven_nil (s : State) (h : s.script = []) : s.nextCycle.undriven = s.undriven + 1 := by
  simp [State.nextCycle, h]

theorem State.nextCycle_undriven_cons (s : State) (p : Ports) (ps : List Ports) (h : s.script = p :: ps) :
    s.nextCycle.undriven = s.undriven := by
  simp [State.nextCycle, h]

theorem State.ports_cons (s : State) (p : Ports) (ps : List Ports) (h : s.script = p :: ps) : s.ports = p := by
  simp [State.ports, h]

theorem State.ports_nil (s : State) (h : s.script = []) : s.ports = Config.hostPorts s.undriven := by
  simp [State.ports, h]

end Sys2Proof.Machine
end

