-- ==== Sys2Proof/Laws/Ops.lean ====
section
/-! SUPPORT. What the shared operations do, said once: the flag and capture operations, the readout, running several
operations, and one whole cycle. -/

namespace Sys2Proof.Machine

/-- RST's writes, whole: the three architectural fields take their reset values (R92). -/
theorem State.resetBlock_eq (s : State) :
    s.resetBlock = { s with frame := 0#32, valid := false, buserr := false } := rfl

/-- CAP's writes, whole (R62). -/
theorem State.captureFrame_eq (s : State) (w : FrameWord) :
    s.captureFrame w = { s with frame := w, valid := true, buserr := false } := rfl

/-- BERR's writes, whole: FRAME stays (R63). -/
theorem State.recordBusError_eq (s : State) :
    s.recordBusError = { s with valid := false, buserr := true } := rfl

@[simp] theorem gated_true (v : Half) : gated true v = { rdata := v, rvalid := true } := rfl

@[simp] theorem gated_false (v : Half) : gated false v = { rdata := 0#16, rvalid := false } := rfl

@[simp] theorem gated_rvalid (b : Bool) (v : Half) : (gated b v).rvalid = b := by cases b <;> rfl

theorem gated_rdata (b : Bool) (v : Half) : (gated b v).rdata = if b then v else 0#16 := by cases b <;> rfl

/-- The readout depends on FRAME, VALID and BUSERR alone (R18, R70). -/
theorem readout_congr {s t : State} (hf : s.frame = t.frame) (hv : s.valid = t.valid) (hb : s.buserr = t.buserr)
    (sel : BitVec 3) : readout s sel = readout t sel := by
  simp [readout, viewProbe, viewRef, viewFault, viewRawhi, viewRawlo, viewStatus, hf, hv, hb]

/-- While VALID = 0 the readout does not depend on FRAME (R16). -/
theorem readout_congr_invalid {s t : State} (hs : s.valid = false) (ht : t.valid = false) (hb : s.buserr = t.buserr)
    (sel : BitVec 3) : readout s sel = readout t sel := by
  simp [readout, viewProbe, viewRef, viewFault, viewRawhi, viewRawlo, viewStatus, hs, ht, hb]

theorem sel_cases (c : BitVec 3) :
    c = 0#3 ∨ c = 1#3 ∨ c = 2#3 ∨ c = 3#3 ∨ c = 4#3 ∨ c = 5#3 ∨ c = 6#3 ∨ c = 7#3 := by
  revert c; decide

/-- When a readout is valid: VALID for the data selects, always for STATUS, never for the reserved codes (R70). -/
theorem readout_rvalid (s : State) (sel : BitVec 3) :
    (readout s sel).rvalid = if sel.toNat ≤ 4 then s.valid else sel == 5#3 := by
  rcases sel_cases sel with rfl | rfl | rfl | rfl | rfl | rfl | rfl | rfl <;>
    simp [readout, viewProbe, viewRef, viewFault, viewRawhi, viewRawlo, viewStatus, viewReserved]

/-- The operation that a select code stands for drives the readout of that code (R39, R70). -/
theorem exec_decodeSel (sel : BitVec 3) (s : State) :
    exec (decodeSel sel) s = .next (s.setOutputs (readout s sel)) := by
  rcases sel_cases sel with rfl | rfl | rfl | rfl | rfl | rfl | rfl | rfl <;> rfl

/-- What the edge that ends a cycle writes, by R84's priority. -/
def edgeWrites (p : Ports) (s : State) : State :=
  if p.rst then s.resetBlock
  else if p.busErr then s.recordBusError
  else if p.frameWe then s.captureFrame p.frameIn
  else s

theorem ctrl_bits (a b c : Bool) :
    (BitVec.ofBool a ++ BitVec.ofBool b ++ BitVec.ofBool c).getLsbD 2 = a ∧
      (BitVec.ofBool a ++ BitVec.ofBool b ++ BitVec.ofBool c).getLsbD 1 = b ∧
      (BitVec.ofBool a ++ BitVec.ofBool b ++ BitVec.ofBool c).getLsbD 0 = c := by
  revert a b c; decide

theorem ctrl_bit_rst (p : Ports) : p.ctrl.getLsbD 2 = p.rst := (ctrl_bits _ _ _).1

theorem ctrl_bit_busErr (p : Ports) : p.ctrl.getLsbD 1 = p.busErr := (ctrl_bits _ _ _).2.1

theorem ctrl_bit_frameWe (p : Ports) : p.ctrl.getLsbD 0 = p.frameWe := (ctrl_bits _ _ _).2.2

/-- The operation that the CTRL value of a cycle stands for performs the edge's writes (R38, R84). -/
theorem exec_decodeCtrl (p : Ports) (s : State) :
    exec (decodeCtrl p.ctrl p.frameIn) s = .next (edgeWrites p s) := by
  rw [decodeCtrl, ctrl_bit_rst, ctrl_bit_busErr, ctrl_bit_frameWe, edgeWrites]
  split
  · rfl
  · split
    · rfl
    · split <;> rfl

theorem execSeq_cons_next {i : Instr} {is : List Instr} {s t : State} (h : exec i s = .next t) :
    execSeq (i :: is) s = execSeq is t := by
  simp [execSeq, h]

theorem execSeq_append_next {is js : List Instr} {s t : State} (h : execSeq is s = .next t) :
    execSeq (is ++ js) s = execSeq js t := by
  induction is generalizing s with
  | nil => cases h; rfl
  | cons i is ih =>
    cases hi : exec i s with
    | next u =>
      rw [List.cons_append, execSeq_cons_next hi]
      exact ih (by rwa [execSeq_cons_next hi] at h)
    | fault r => simp [execSeq, hi] at h
    | refused r => simp [execSeq, hi] at h

/-- The eleven FRAME operations together put DECODE's outputs on the decoder and change nothing else. -/
theorem execSeq_decodeFrame (w : FrameWord) (s : State) :
    execSeq (decodeFrame w) s = .next (s.setDecoder (decoderOutputs w)) := by
  simp only [decodeFrame, execSeq, exec, execProbeField, execProbeSext, execProbeScale, execRefField, execRefSext,
    execRefScale, execFaultScv, execFaultScg, execFaultOc, execFaultAgg, execDecode, State.setDecoder, decoderOutputs]

/-- The state in which a cycle's edge acts: the inputs have moved on, the decoder has decoded FRAME, the readout shows the
state before the edge (R96). -/
def beforeEdge (s : State) : State :=
  (s.nextCycle.setDecoder (decoderOutputs s.frame)).setOutputs (readout s s.ports.sel)

/-- Everything one step can do. -/
theorem step_eq (s : State) : step s = .next (edgeWrites s.ports (beforeEdge s)) := by
  have h := execSeq_append_next (js := [decodeSel s.ports.sel, decodeCtrl s.ports.ctrl s.ports.frameIn])
    (execSeq_decodeFrame s.frame s.nextCycle)
  have hr : readout (s.nextCycle.setDecoder (decoderOutputs s.frame)) s.ports.sel = readout s s.ports.sel :=
    readout_congr (by simp) (by simp) (by simp) _
  rw [step, runCycle, cycleInstrs, h, execSeq_cons_next (exec_decodeSel _ _), execSeq_cons_next (exec_decodeCtrl _ _),
    execSeq, hr, beforeEdge]

@[simp] theorem edgeWrites_rdata (p : Ports) (s : State) : (edgeWrites p s).rdata = s.rdata := by
  unfold edgeWrites; split <;> (try split) <;> (try split) <;> rfl

@[simp] theorem edgeWrites_rvalid (p : Ports) (s : State) : (edgeWrites p s).rvalid = s.rvalid := by
  unfold edgeWrites; split <;> (try split) <;> (try split) <;> rfl

@[simp] theorem edgeWrites_decoder (p : Ports) (s : State) : (edgeWrites p s).decoder = s.decoder := by
  unfold edgeWrites; split <;> (try split) <;> (try split) <;> rfl

@[simp] theorem edgeWrites_script (p : Ports) (s : State) : (edgeWrites p s).script = s.script := by
  unfold edgeWrites; split <;> (try split) <;> (try split) <;> rfl

@[simp] theorem edgeWrites_undriven (p : Ports) (s : State) : (edgeWrites p s).undriven = s.undriven := by
  unfold edgeWrites; split <;> (try split) <;> (try split) <;> rfl

@[simp] theorem beforeEdge_frame (s : State) : (beforeEdge s).frame = s.frame := rfl

@[simp] theorem beforeEdge_valid (s : State) : (beforeEdge s).valid = s.valid := rfl

@[simp] theorem beforeEdge_buserr (s : State) : (beforeEdge s).buserr = s.buserr := rfl

@[simp] theorem beforeEdge_rdata (s : State) : (beforeEdge s).rdata = (readout s s.ports.sel).rdata := rfl

@[simp] theorem beforeEdge_rvalid (s : State) : (beforeEdge s).rvalid = (readout s s.ports.sel).rvalid := rfl

@[simp] theorem beforeEdge_decoder (s : State) : (beforeEdge s).decoder = decoderOutputs s.frame := rfl

@[simp] theorem beforeEdge_script (s : State) : (beforeEdge s).script = s.script.tail := rfl

@[simp] theorem beforeEdge_undriven (s : State) : (beforeEdge s).undriven = s.nextCycle.undriven := rfl

end Sys2Proof.Machine
end

