-- ==== Sys2Proof/Laws/PerInstr.lean ====
section
/-! SUPPORT. One law for each operation: its encoding lies in its row of spec/opcode_table.json. -/

namespace Sys2Proof.Laws.TableRow

/-- A code in the FRAME format. -/
def inFrame : Code → Bool
  | .frame _ => true
  | .ctrl _ _ => false
  | .sel _ => false

/-- A code in the CTRL format whose value has the bits `m` under the mask `k` (R38). -/
def inCtrl (m k : BitVec 3) : Code → Bool
  | .frame _ => false
  | .ctrl c _ => c &&& k == m
  | .sel _ => false

/-- A code in the SEL format with the value `m` (R39). -/
def inSel (m : BitVec 3) : Code → Bool
  | .frame _ => false
  | .ctrl _ _ => false
  | .sel c => c == m

/-- The codes of an operation's row: the format, match and mask of spec/opcode_table.json. -/
def rowOf : Instr → Code → Bool
  | .probeField _ => inFrame
  | .probeSext _ => inFrame
  | .probeScale _ => inFrame
  | .refField _ => inFrame
  | .refSext _ => inFrame
  | .refScale _ => inFrame
  | .faultScv _ => inFrame
  | .faultScg _ => inFrame
  | .faultOc _ => inFrame
  | .faultAgg _ => inFrame
  | .decode _ => inFrame
  | .rst _ _ => inCtrl 0b100#3 0b100#3
  | .berr _ => inCtrl 0b010#3 0b110#3
  | .cap _ => inCtrl 0b001#3 0b111#3
  | .nop => inCtrl 0b000#3 0b111#3
  | .rdProbe => inSel 0b000#3
  | .rdRef => inSel 0b001#3
  | .rdFault => inSel 0b010#3
  | .rdRawhi => inSel 0b011#3
  | .rdRawlo => inSel 0b100#3
  | .rdStatus => inSel 0b101#3
  | .rdRsvd6 => inSel 0b110#3
  | .rdRsvd7 => inSel 0b111#3

/-- The encoding of a well-formed operation lies in its row. -/
def Statement (i : Instr) : Prop := i.wellFormed = true → rowOf i (encode i) = true

theorem probeField (w : FrameWord) : Statement (.probeField w) := fun _ => rfl
theorem probeSext (w : FrameWord) : Statement (.probeSext w) := fun _ => rfl
theorem probeScale (w : FrameWord) : Statement (.probeScale w) := fun _ => rfl
theorem refField (w : FrameWord) : Statement (.refField w) := fun _ => rfl
theorem refSext (w : FrameWord) : Statement (.refSext w) := fun _ => rfl
theorem refScale (w : FrameWord) : Statement (.refScale w) := fun _ => rfl
theorem faultScv (w : FrameWord) : Statement (.faultScv w) := fun _ => rfl
theorem faultScg (w : FrameWord) : Statement (.faultScg w) := fun _ => rfl
theorem faultOc (w : FrameWord) : Statement (.faultOc w) := fun _ => rfl
theorem faultAgg (w : FrameWord) : Statement (.faultAgg w) := fun _ => rfl
theorem decode (w : FrameWord) : Statement (.decode w) := fun _ => rfl
theorem rst (e f : Bool) : Statement (.rst e f) := fun _ => by cases e <;> cases f <;> rfl
theorem berr (f : Bool) : Statement (.berr f) := fun _ => by cases f <;> rfl
theorem cap (w : FrameWord) : Statement (.cap w) := fun _ => rfl
theorem nop : Statement .nop := fun _ => rfl
theorem rdProbe : Statement .rdProbe := fun _ => rfl
theorem rdRef : Statement .rdRef := fun _ => rfl
theorem rdFault : Statement .rdFault := fun _ => rfl
theorem rdRawhi : Statement .rdRawhi := fun _ => rfl
theorem rdRawlo : Statement .rdRawlo := fun _ => rfl
theorem rdStatus : Statement .rdStatus := fun _ => rfl
theorem rdRsvd6 : Statement .rdRsvd6 := fun _ => rfl
theorem rdRsvd7 : Statement .rdRsvd7 := fun _ => rfl

end Sys2Proof.Laws.TableRow
end

