-- ==== Sys2Proof/Laws/Runs.lean ====
section
/-! SUPPORT. What one more cycle does to a run and to what it shows, said once; statements about runs go by induction over
these. -/

namespace Sys2Proof.Machine

/-- The state after one cycle. -/
def afterCycle (s : State) : State := edgeWrites s.ports (beforeEdge s)

theorem step_afterCycle (s : State) : step s = .next (afterCycle s) := step_eq s

@[simp] theorem afterCycle_script (s : State) : (afterCycle s).script = s.script.tail := by simp [afterCycle]

/-- A cycle shows the readout of the state before its edge (R96). -/
@[simp] theorem afterCycle_observed (s : State) : (afterCycle s).observed = readout s s.ports.sel := by
  simp [afterCycle, State.observed]

theorem runSteps_succ (k : Nat) (s : State) : runSteps (k + 1) s = runSteps k (afterCycle s) := by
  rw [runSteps, step_afterCycle]

theorem observations_succ (k : Nat) (s : State) :
    observations (k + 1) s = readout s s.ports.sel :: observations k (afterCycle s) := by
  rw [observations, step_afterCycle]; simp

theorem expectationMet_iff (l : Line) (r : ReadWord) :
    expectationMet l r = true ↔ ∀ x, l.expect = some x → r.rdata = x.rdata ∧ r.rvalid = x.rvalid := by
  cases h : l.expect <;> simp [expectationMet, h]

end Sys2Proof.Machine
end

