-- ==== Sys2Proof/Tests/Slice0.lean ====
section
/-! SUPPORT. Small tests, their expected values taken from spec/95_test_vectors.md and the examples of the rules, and one
witness for the hypotheses of each statement that has some. -/

namespace Sys2Proof.Tests

open Sys2Proof.Machine

/-- What `f` shows of the next state of an outcome. -/
def shown {α : Type} (f : State → α) : Result → Option α
  | .next s => some (f s)
  | .fault _ => none
  | .refused _ => none

/-- A state with the given FRAME, VALID and BUSERR and the given cycles to come. -/
def st (w : FrameWord) (v b : Bool) (script : List Ports) : State :=
  { State.reset with frame := w, valid := v, buserr := b, script := script }

/-- The architectural state. -/
def arch (s : State) : FrameWord × Bool × Bool := (s.frame, s.valid, s.buserr)

/-- A cycle by its CYC word and `frame_in`. -/
def cyc (c : Nat) (w : FrameWord) : Ports := portsOfCyc (BitVec.ofNat 6 c) w

/-! Well-formedness: each check refuses an ill-formed term. -/

theorem test_expectation_without_read_refused : (Line.mk .nop none (some ⟨0#16, true⟩)).wellFormed = false := by decide

theorem test_unassembled_cycle_refused : (cyc 0x10 0x00000001#32).assembled = false := by decide

theorem test_every_operation_well_formed : (Instr.berr true).wellFormed = true := by decide

/-! Decoding: words written out from 30_encoding.md. -/

/-- R35: one frame word feeds all eleven operations. -/
theorem test_decode_frame : decode (.frame 0b00011001110000000000110000000000#32) =
    [.probeField 0x19C00C00#32, .probeSext 0x19C00C00#32, .probeScale 0x19C00C00#32, .refField 0x19C00C00#32,
     .refSext 0x19C00C00#32, .refScale 0x19C00C00#32, .faultScv 0x19C00C00#32, .faultScg 0x19C00C00#32,
     .faultOc 0x19C00C00#32, .faultAgg 0x19C00C00#32, .decode 0x19C00C00#32] := by decide

/-- R38: the eight CTRL values. -/
theorem test_decode_ctrl : (List.range 8).map (fun n => decodeCtrl (BitVec.ofNat 3 n) 0xFFFFFFFF#32) =
    [.nop, .cap 0xFFFFFFFF#32, .berr false, .berr true, .rst false false, .rst false true, .rst true false,
     .rst true true] := by decide

/-- R39: the eight SEL values. -/
theorem test_decode_sel : [decodeSel 0b000#3, decodeSel 0b001#3, decodeSel 0b010#3, decodeSel 0b011#3,
    decodeSel 0b100#3, decodeSel 0b101#3, decodeSel 0b110#3, decodeSel 0b111#3] =
    [.rdProbe, .rdRef, .rdFault, .rdRawhi, .rdRawlo, .rdStatus, .rdRsvd6, .rdRsvd7] := by decide

/-- R44, the rule's example: `CAP 0x19C00C00, RD STATUS` is CYC 0x0D. -/
theorem test_cyc_example : cyc 0x0D 0x19C00C00#32 = linePorts ⟨.cap 0x19C00C00#32, some .status, none⟩ := by decide

theorem test_table_word_frame : decodeTableWord 32 0x19C00C00 = some (.decode 0x19C00C00#32) := by decide

theorem test_table_word_sel : decodeTableWord 8 0b101 = some .rdStatus := by decide

theorem test_table_word_ctrl : decodeTableWord 8 0b010000 = some (.berr false) := by decide

theorem test_table_word_rejected :
    [decodeTableWord 16 0, decodeTableWord 8 64, decodeTableWord 3 8, decodeTableWord 32 4294967296] =
      [none, none, none, none] := by decide

/-- R42: the text of P3's line 6, with blanks and a comment. -/
theorem test_parse_line :
    parseLine ['R', 'S', 'T', ',', ' ', 'R', 'D', ' ', 'P', 'R', 'O', 'B', 'E', ' ', '-', '>', ' ', '0', 'x', 'E', '0', '0',
      '0', ' ', '1', ' ', ';', ' ', 'x'] = .ok ⟨.rst, some .probe, some ⟨0xE000#16, true⟩⟩ := by decide

/-- R42: the pseudo-line `RD STATUS`, and a line that is none of the grammar's. -/
theorem test_parse_pseudo_and_reject :
    parseScript ['R', 'D', ' ', 'S', 'T', 'A', 'T', 'U', 'S', '\n', 'N', 'O', 'P', '\n'] =
      .ok [⟨.nop, some .status, none⟩, ⟨.nop, none, none⟩] ∧
    parseLine ['C', 'A', 'P', ' ', '0', 'x', '1'] = .error .badFrame := by decide

/-! The decoder: the rows of 95_test_vectors.md section 2 that tell misreadings apart. -/

theorem test_probe_field : shown (·.decoder.probeRaw14) (exec (.probeField 0x19C00C00#32) State.reset) = some 0x0670#14 := by
  decide

/-- 90_conflicts.md C1: bit 12 alone is positive, bit 13 is the sign. -/
theorem test_probe_sext : shown (·.decoder.probeQ) (exec (.probeSext 0x40000000#32) State.reset) = some 0x1000#16 ∧
    shown (·.decoder.probeQ) (exec (.probeSext 0x80000000#32) State.reset) = some 0xE000#16 := by decide

theorem test_probe_scale : shown (·.decoder.probeTemperature) (exec (.probeScale 0x19C00C00#32) State.reset) = some 412 ∧
    shown (·.decoder.probeTemperature) (exec (.probeScale 0xFFFC0000#32) State.reset) = some (mkRat (-1) 4) := by decide

theorem test_ref_field : shown (·.decoder.refRaw12) (exec (.refField 0xFE71F587#32) State.reset) = some 0xF58#12 := by decide

/-- 90_conflicts.md C2: bit 8 alone is positive, bit 11 is the sign. -/
theorem test_ref_sext : shown (·.decoder.refQ) (exec (.refSext 0x00001000#32) State.reset) = some 0x0100#16 ∧
    shown (·.decoder.refQ) (exec (.refSext 0x00008000#32) State.reset) = some 0xF800#16 := by decide

theorem test_ref_scale : shown (·.decoder.refTemperature) (exec (.refScale 0xFE71F587#32) State.reset) =
    some (mkRat (-21) 2) := by decide

theorem test_fault_scv : shown (·.decoder.scv) (exec (.faultScv 0x00000004#32) State.reset) = some true ∧
    shown (·.decoder.scv) (exec (.faultScv 0xFFFFFFFB#32) State.reset) = some false := by decide

theorem test_fault_scg : shown (·.decoder.scg) (exec (.faultScg 0x00000002#32) State.reset) = some true ∧
    shown (·.decoder.scg) (exec (.faultScg 0xFFFFFFFD#32) State.reset) = some false := by decide

theorem test_fault_oc : shown (·.decoder.oc) (exec (.faultOc 0x00000001#32) State.reset) = some true ∧
    shown (·.decoder.oc) (exec (.faultOc 0xFFFFFFFE#32) State.reset) = some false := by decide

/-- R56: the aggregate bit alone, and the causes without it. -/
theorem test_fault_agg : shown (·.decoder.faultAny) (exec (.faultAgg 0x00010000#32) State.reset) = some true ∧
    shown (·.decoder.faultAny) (exec (.faultAgg 0x00000007#32) State.reset) = some false := by decide

theorem test_decode : shown (·.decoder.reading) (exec (.decode 0xFE71F587#32) State.reset) =
    some ⟨0xFF9C#16, 0xFF58#16, true, true, true, true⟩ := by decide

/-- R37: the unused bits alone decode as the zero frame. -/
theorem test_decode_unused_bits : shown (·.decoder.reading) (exec (.decode 0x00020008#32) State.reset) =
    some ⟨0#16, 0#16, false, false, false, false⟩ := by decide

/-! Capture and reset: 95_test_vectors.md section 3. -/

theorem test_cap : shown arch (exec (.cap 0xFFFFFFFF#32) (st 0x19C00C00#32 false true [])) =
    some (0xFFFFFFFF#32, true, false) := by decide

theorem test_berr : shown arch (exec (.berr true) (st 0x19C00C00#32 true false [])) =
    some (0x19C00C00#32, false, true) := by decide

theorem test_nop : shown arch (exec .nop (st 0x19C00C00#32 false true [])) = some (0x19C00C00#32, false, true) := by decide

theorem test_rst : shown arch (exec (.rst true true) (st 0x19C00C00#32 true true [])) = some (0#32, false, false) := by decide

/-- R84: the CTRL values 0 to 7 from S0, `frame_in` = 0xFFFFFFFF. -/
theorem test_edge_priority :
    (List.range 8).map (fun n => shown arch (step (st 0x19C00C00#32 true false [cyc (8 * n) 0xFFFFFFFF#32]))) =
      [some (0x19C00C00#32, true, false), some (0xFFFFFFFF#32, true, false), some (0x19C00C00#32, false, true),
       some (0x19C00C00#32, false, true), some (0#32, false, false), some (0#32, false, false),
       some (0#32, false, false), some (0#32, false, false)] := by decide

/-! The readout: 95_test_vectors.md section 4. -/

theorem test_rd_probe : shown State.observed (exec .rdProbe (st 0xFE71F587#32 true false [])) = some ⟨0xFF9C#16, true⟩ := by
  decide

theorem test_rd_ref : shown State.observed (exec .rdRef (st 0xFE71F587#32 true false [])) = some ⟨0xFF58#16, true⟩ := by decide

theorem test_rd_fault : shown State.observed (exec .rdFault (st 0x00010002#32 true false [])) = some ⟨0x000A#16, true⟩ ∧
    shown State.observed (exec .rdFault (st 0x000A0008#32 true false [])) = some ⟨0x0000#16, true⟩ := by decide

theorem test_rd_rawhi : shown State.observed (exec .rdRawhi (st 0xFE71F587#32 true false [])) = some ⟨0xFE71#16, true⟩ ∧
    shown State.observed (exec .rdRawhi (st 0xFE71F587#32 false true [])) = some ⟨0x0000#16, false⟩ := by decide

theorem test_rd_rawlo : shown State.observed (exec .rdRawlo (st 0x000A0008#32 true false [])) = some ⟨0x0008#16, true⟩ := by
  decide

theorem test_rd_status : shown State.observed (exec .rdStatus (st 0xFE71F587#32 false true [])) = some ⟨0x0002#16, true⟩ ∧
    shown State.observed (exec .rdStatus (st 0xFE71F587#32 true false [])) = some ⟨0x0001#16, true⟩ := by decide

theorem test_rd_rsvd6 : shown State.observed (exec .rdRsvd6 (st 0xFE71F587#32 true false [])) = some ⟨0x0000#16, false⟩ := by
  decide

theorem test_rd_rsvd7 : shown State.observed (exec .rdRsvd7 (st 0xFE71F587#32 true false [])) = some ⟨0x0000#16, false⟩ := by
  decide

/-- R96, program P3's line 6: the reset cycle still shows the old reading. -/
theorem test_read_before_edge : shown (fun s => (s.observed, arch s)) (step (st 0x80008000#32 true false [cyc 0x20 0#32])) =
    some (⟨0xE000#16, true⟩, 0#32, false, false) := by decide

/-- R92: the reset state. -/
theorem test_reset : arch State.reset = (0#32, false, false) ∧ State.reset.decoder = decoderOutputs 0#32 := by decide

/-- A placed word runs as the first instruction after reset. -/
theorem test_placed_word :
    shown (·.decoder.reading.probeQ) (step (State.reset.withFetchWord 32 0x19C00C00)) = some 0x0670#16 ∧
    shown State.observed (step (State.reset.withFetchWord 8 5)) = some ⟨0x0000#16, true⟩ := by decide

/-! Witnesses: the hypotheses of the statements can be met. -/

theorem witness_DecodeOfEncode : (Instr.rst true false).wellFormed = true ∧ (∀ w, encode (.rst true false) ≠ .frame w) ∧
    encode (.decode 7#32) = .frame 7#32 := ⟨rfl, by simp [encode], rfl⟩

theorem witness_EncodeOfDecode : Instr.berr true ∈ decode (.ctrl 0b011#3 5#32) ∧
    Instr.faultOc 9#32 ∈ decode (.frame 9#32) := by decide

theorem witness_ScriptTextRoundTrip :
    (Line.mk (.capberr 0xFFFFFFFF#32) (some .rsvd7) (some ⟨0x0000#16, false⟩)).wellFormed = true := by decide

theorem witness_ScriptLineCycWord : (Line.mk .rst (some .rsvd7) none).read = some .rsvd7 ∧
    (Line.mk .rst none none).read = none := by decide

theorem witness_IntegerRoundTrip :
    (0x80020008#32).extractLsb' 18 14 = BitVec.ofInt 14 (-8192) ∧ (0x7FFFFFFF#32).extractLsb' 18 14 = BitVec.ofInt 14 8191 ∧
    (0x00008008#32).extractLsb' 4 12 = BitVec.ofInt 12 (-2048) ∧ (0xFFFF7FFF#32).extractLsb' 4 12 = BitVec.ofInt 12 2047 := by
  decide

theorem witness_ProbeAndReferenceAreIndependent :
    (0x19C3FFFF#32).extractLsb' 18 14 = (0x19C00000#32).extractLsb' 18 14 ∧
    (0xFFFF0C0F#32).extractLsb' 4 12 = (0x00000C00#32).extractLsb' 4 12 := by decide

theorem witness_DecoderOperationsAreStateless : Instr.probeField 1#32 ∈ decodeFrame 1#32 ∧
    (st 7#32 true false []).decoder = State.reset.decoder := by decide

/-- A change of FRAME and VALID by CAP, of BUSERR by BERR, and of all three back by RST. -/
theorem witness_OnlyCaptureOperationsWriteState : ∃ t u v : State,
    exec (.cap 5#32) State.reset = .next t ∧ t.frame ≠ State.reset.frame ∧ t.valid ≠ State.reset.valid ∧
    exec (.berr false) t = .next u ∧ u.valid ≠ t.valid ∧ u.buserr ≠ t.buserr ∧
    exec (.rst false false) u = .next v ∧ v.frame ≠ u.frame ∧ v.buserr ≠ u.buserr :=
  ⟨_, _, _, rfl, by decide, by decide, rfl, by decide, by decide, rfl, by decide, by decide⟩

/-- The select codes at the edges of the clauses: 0 and 4, 5, 6 and 7. -/
theorem witness_ReadoutIsGated : (0b000#3).toNat ≤ 4 ∧ (0b100#3).toNat ≤ 4 ∧ (0b101#3).toNat = 5 ∧
    assignedSel 0b110#3 = false ∧ assignedSel 0b111#3 = false ∧ assignedSel 0b101#3 = true ∧ (readout State.reset 0b100#3).rvalid = false ∧
    arch (st 0#32 false false [cyc 1 0#32]) = arch State.reset := by decide

theorem witness_PlacedWordIsRunNext : decodeTableWord 8 63 = some (.rst true true) ∧ (8 : Nat) ≠ 32 ∧
    decodeTableWord 32 4294967295 = some (.decode 0xFFFFFFFF#32) ∧ decodeTableWord 3 7 = some .rdRsvd7 := by decide

theorem witness_NewStateReadableNextCycle : ∃ (s : State) (p q : Ports), s.script = p :: q :: [] ∧ p.rst = false ∧
    p.busErr = false ∧ p.frameWe = true :=
  ⟨st 1#32 false true [cyc 0x08 7#32, cyc 0x04 0#32], cyc 0x08 7#32, cyc 0x04 0#32, rfl, by decide, by decide, by decide⟩

/-- Every CTRL value but CAP's. -/
theorem witness_IgnoredInputsHaveNoEffect :
    ([0x00, 0x10, 0x18, 0x20, 0x28, 0x30, 0x38].all fun c => noCapture (cyc c 9#32)) = true ∧
    noCapture (cyc 0x08 9#32) = false := by decide

/-- The reset state and a state with a reading are sound, also for `StatusTellsReport` and `RdStatusResult`. -/
theorem witness_Sound : State.reset.Sound ∧ (st 7#32 true false []).Sound ∧ (st 7#32 false true []).Sound :=
  ⟨⟨by decide, by decide, by decide, 0#32, by decide⟩, ⟨by decide, by decide, by decide, 0#32, by decide⟩,
    ⟨by decide, by decide, by decide, 0#32, by decide⟩⟩

theorem witness_StepKeepsSound : ∃ s t : State, s.Sound ∧ step s = .next t ∧ t.valid = true :=
  ⟨st 7#32 true false [cyc 0x00 0#32], _,
    ⟨by decide, by decide, by decide, 0#32, by decide⟩, rfl, by decide⟩

/-- A state after the first reset, reached from an unsound one. -/
theorem witness_SoundFromFirstReset : ∃ t : State, AfterReset t ∧ step (st 7#32 true true [cyc 0x20 0#32]) = .next t :=
  ⟨_, .rstEdge (s := st 7#32 true true [cyc 0x20 0#32]) (by decide) rfl, rfl⟩

theorem witness_ResetEdgesEstablishReset : (st 7#32 true true [cyc 0x20 0#32, cyc 0x3F 1#32]).script =
    (cyc 0x20 0#32 :: [cyc 0x3F 1#32]) ++ [] ∧ ∀ q ∈ cyc 0x20 0#32 :: [cyc 0x3F 1#32], q.rst = true := by decide

theorem witness_BootEndsUnspecifiedState : (cyc 0x20 0#32).rst = true ∧ (cyc 0x3F 1#32).rst = true := by decide

/-- A reset cycle, then an idle cycle for every select code, another reset, and a read in the cycle that ends in a CAP. -/
theorem witness_ReadsAfterReset : ∃ (s : State) (p : Ports) (ps : List Ports), s.script = p :: (ps ++ []) ∧ p.rst = true ∧
    ps.length = 10 ∧ (∀ q ∈ ps.dropLast, noTransaction q = true) ∧ ps.getLast? = some (cyc 0x08 7#32) :=
  ⟨st 7#32 true true (cyc 0x20 0#32 :: ((List.range 8).map (fun n => cyc n 0#32) ++ [cyc 0x38 1#32, cyc 0x08 7#32])),
    cyc 0x20 0#32, (List.range 8).map (fun n => cyc n 0#32) ++ [cyc 0x38 1#32, cyc 0x08 7#32], rfl, by decide, by decide,
    by decide, by decide⟩

/-- A bus error and an idle cycle with the select codes 0 and 4, then a read in the cycle that ends in a CAP. -/
theorem witness_NoReadingUntilNextCapture : ∃ (s : State) (ps : List Ports), s.script = ps ++ [] ∧ s.valid = false ∧
    (∀ q ∈ ps.dropLast, noCapture q = true) ∧ ps[0]? = some (cyc 0x10 0#32) ∧ ps[1]? = some (cyc 0x04 0#32) ∧
    ps[2]? = some (cyc 0x08 9#32) ∧ (cyc 0x10 0#32).sel.toNat ≤ 4 ∧ (cyc 0x04 0#32).sel.toNat ≤ 4 ∧
    (cyc 0x08 9#32).sel.toNat ≤ 4 :=
  ⟨st 7#32 false true [cyc 0x10 0#32, cyc 0x04 0#32, cyc 0x08 9#32], [cyc 0x10 0#32, cyc 0x04 0#32, cyc 0x08 9#32], rfl,
    rfl, by decide, rfl, rfl, rfl, by decide, by decide, by decide⟩

/-- The clause of `NoReadingUntilNextCapture` about VALID: cycles none of which performs a CAP. -/
theorem witness_NoReadingUntilNextCapture_valid : ∃ (s : State) (ps : List Ports), s.script = ps ++ [] ∧
    s.valid = false ∧ ps.length = 3 ∧ ∀ q ∈ ps, noCapture q = true :=
  ⟨st 7#32 false true [cyc 0x10 0#32, cyc 0x04 0#32, cyc 0x38 1#32], [cyc 0x10 0#32, cyc 0x04 0#32, cyc 0x38 1#32], rfl,
    rfl, rfl, by decide⟩

/-- Cycles that read the reference, the probe and the fault word of a captured frame; the last one ends in a BERR. -/
theorem witness_SnapshotReadIsOneReading : ∃ (s : State) (ps : List Ports), s.script = ps ++ [] ∧
    (∀ x ∈ ps.dropLast, quiet x = true) ∧ s.valid = true ∧ ps[1]? = some (cyc 0x00 0#32) ∧
    (cyc 0x00 0#32).sel = 0b000#3 ∧ ps[0]? = some (cyc 0x01 0#32) ∧ (cyc 0x01 0#32).sel = 0b001#3 ∧
    ps[2]? = some (cyc 0x12 0#32) ∧ (cyc 0x12 0#32).sel = 0b010#3 :=
  ⟨st 0xFE71F587#32 true false [cyc 1 0#32, cyc 0 0#32, cyc 0x12 0#32], [cyc 1 0#32, cyc 0 0#32, cyc 0x12 0#32], rfl,
    by decide, rfl, rfl, by decide, rfl, by decide, rfl, by decide⟩

/-- Two idle cycles and one that ends in a reset; the two alone are idle throughout. -/
theorem witness_IdleCyclesKeepReading : ∃ (s : State) (ps qs : List Ports), s.script = ps ++ [] ∧ s.script = qs ++ [cyc 0x20 0#32] ∧
    ps.length = 3 ∧ (∀ q ∈ ps.dropLast, quiet q = true) ∧ qs.length = 2 ∧ ∀ q ∈ qs, quiet q = true :=
  ⟨st 7#32 true false [cyc 3 0#32, cyc 5 0#32, cyc 0x20 0#32], [cyc 3 0#32, cyc 5 0#32, cyc 0x20 0#32],
    [cyc 3 0#32, cyc 5 0#32], rfl, rfl, rfl, by decide, rfl, by decide⟩

/-- Two states that hold different stale frames. -/
theorem witness_HiddenFrameIsNeverShown :
    SameVisible (st 0x19C00C00#32 false true [cyc 3 0#32]) (st 0xFFFFFFFF#32 false true [cyc 3 0#32]) :=
  ⟨rfl, rfl, by decide, rfl, rfl⟩

theorem witness_StepKeepsSameVisible : ∃ s t s' t' : State, SameVisible s t ∧ s.frame ≠ t.frame ∧ step s = .next s' ∧
    step t = .next t' :=
  ⟨st 0x19C00C00#32 false true [cyc 3 0#32], st 0xFFFFFFFF#32 false true [cyc 3 0#32], _, _,
    ⟨rfl, rfl, by decide, rfl, rfl⟩, by decide, rfl, rfl⟩

/-- A line with a read and an expectation. -/
theorem witness_ScriptRunsAsItsCycles :
    (Line.mk .berr (some .probe) (some ⟨0x1FFF#16, true⟩)).expect = some ⟨0x1FFF#16, true⟩ ∧
    (Line.mk .berr (some .probe) (some ⟨0x1FFF#16, true⟩)).read = some .probe := by decide

/-- A frame, no transaction, and a bus error with `frame_we` = 1, from the reset state. -/
theorem witness_ReportIsLastOutcome : ∃ (cycles : List (BusOutcome × Ports)) (s : State),
    s.script = cycles.map Prod.snd ++ [] ∧ (∀ c ∈ cycles, presents c.1 c.2 = true) ∧
    s.report = BusOutcome.none.report ∧ cycles.length = 3 :=
  ⟨[(.frame 7#32, cyc 0x08 7#32), (.none, cyc 0x05 0#32), (.busError, cyc 0x18 9#32)],
    st 0#32 false false [cyc 0x08 7#32, cyc 0x05 0#32, cyc 0x18 9#32], rfl, by decide, by decide, rfl⟩

end Sys2Proof.Tests
end

namespace Sys2Proof.Machine

/-! ### Encodings: a code is the encoding of every operation it stands for -/

theorem encode_of_mem_decodeFrame {w : FrameWord} {i : Instr} (h : i ∈ decodeFrame w) : encode i = .frame w := by
  simp only [decodeFrame, List.mem_cons, List.not_mem_nil, or_false] at h
  rcases h with rfl | rfl | rfl | rfl | rfl | rfl | rfl | rfl | rfl | rfl | rfl <;> rfl

theorem encode_decodeCtrl (c : BitVec 3) (f : FrameWord) :
    encode (decodeCtrl c f) = .ctrl c (if c = 0b001#3 then f else 0#32) := by
  rcases sel_cases c with rfl | rfl | rfl | rfl | rfl | rfl | rfl | rfl <;> rfl

theorem encode_decodeSel (c : BitVec 3) : encode (decodeSel c) = .sel c := by
  rcases sel_cases c with rfl | rfl | rfl | rfl | rfl | rfl | rfl | rfl <;> rfl

/-! ### One operation: which of them write FRAME, VALID and BUSERR -/

/-- What `t` keeps of `s` where only the model's records of outputs may differ. -/
structure SameArchAndInputs (s t : State) : Prop where
  frame : t.frame = s.frame
  valid : t.valid = s.valid
  buserr : t.buserr = s.buserr
  script : t.script = s.script
  undriven : t.undriven = s.undriven

/-- Everything one operation can do to the architectural state: RST, BERR and CAP write it, the other operations do not
(R12 to R14, R20). -/
theorem exec_cases {i : Instr} {s t : State} (h : exec i s = .next t) :
    (∃ e f, i = .rst e f ∧ t = s.resetBlock) ∨ (∃ f, i = .berr f ∧ t = s.recordBusError) ∨
      (∃ w, i = .cap w ∧ t = s.captureFrame w) ∨ SameArchAndInputs s t := by
  cases i with
  | rst e f => cases h; exact .inl ⟨e, f, rfl, rfl⟩
  | berr f => cases h; exact .inr (.inl ⟨f, rfl, rfl⟩)
  | cap w => cases h; exact .inr (.inr (.inl ⟨w, rfl, rfl⟩))
  | _ => cases h; exact .inr (.inr (.inr ⟨rfl, rfl, rfl, rfl, rfl⟩))

/-! ### The readout: three kinds of select codes -/

/-- What a select code reads: a view gated by VALID, STATUS, or nothing (R70). -/
theorem readout_cases (s : State) (sel : BitVec 3) :
    (∃ v, readout s sel = gated s.valid v) ∨ readout s sel = viewStatus s ∨ readout s sel = viewReserved := by
  rcases sel_cases sel with rfl | rfl | rfl | rfl | rfl | rfl | rfl | rfl
  iterate 5 exact .inl ⟨_, rfl⟩
  · exact .inr (.inl rfl)
  iterate 2 exact .inr (.inr rfl)

/-- A read that is not valid shows 0x0000 (R70). -/
theorem readout_rdata_of_not_rvalid {s : State} {sel : BitVec 3} (h : (readout s sel).rvalid = false) :
    (readout s sel).rdata = 0#16 := by
  obtain ⟨v, hr⟩ | hr | hr := readout_cases s sel <;> rw [hr] at h ⊢
  · rw [gated_rvalid] at h
    rw [gated_rdata, h]; rfl
  · cases h
  · rfl

/-- With VALID = 0 every data select reads 0x0000 with `rvalid` = 0 (R70). -/
theorem readout_data_of_not_valid {s : State} {sel : BitVec 3} (hv : s.valid = false) (hsel : sel.toNat ≤ 4) :
    readout s sel = { rdata := 0x0000#16, rvalid := false } := by
  have hinv : (readout s sel).rvalid = false := by rw [readout_rvalid, if_pos hsel, hv]
  exact congr (congrArg ReadWord.mk (readout_rdata_of_not_rvalid hinv)) hinv

theorem assignedSel_eq_false_iff (sel : BitVec 3) : assignedSel sel = false ↔ sel = 6#3 ∨ sel = 7#3 := by
  revert sel; decide

theorem statusWord_eq_three_iff (b v : Bool) : statusWord b v = 0x0003#16 ↔ v = true ∧ b = true := by
  revert b v; decide

/-! ### The edge: one equation for each of R84's four cases -/

theorem quiet_iff (p : Ports) : quiet p = true ↔ p.rst = false ∧ p.busErr = false ∧ p.frameWe = false := by
  simp [quiet, and_assoc]

/-- The four kinds of edge in R84's order: RST, BERR, CAP, NOP. -/
theorem edge_cases (p : Ports) :
    p.rst = true ∨ (p.rst = false ∧ p.busErr = true) ∨ (p.rst = false ∧ p.busErr = false ∧ p.frameWe = true) ∨
      quiet p = true := by
  cases hr : p.rst with
  | true => exact .inl rfl
  | false =>
    cases he : p.busErr with
    | true => exact .inr (.inl ⟨rfl, rfl⟩)
    | false =>
      cases hw : p.frameWe with
      | true => exact .inr (.inr (.inl ⟨rfl, rfl, rfl⟩))
      | false => exact .inr (.inr (.inr ((quiet_iff p).mpr ⟨hr, he, hw⟩)))

theorem edgeWrites_of_rst {p : Ports} (hr : p.rst = true) (s : State) : edgeWrites p s = s.resetBlock := by
  simp [edgeWrites, hr]

theorem edgeWrites_of_berr {p : Ports} (hr : p.rst = false) (he : p.busErr = true) (s : State) :
    edgeWrites p s = s.recordBusError := by
  simp [edgeWrites, hr, he]

theorem edgeWrites_of_cap {p : Ports} (hr : p.rst = false) (he : p.busErr = false) (hw : p.frameWe = true) (s : State) :
    edgeWrites p s = s.captureFrame p.frameIn := by
  simp [edgeWrites, hr, he, hw]

theorem edgeWrites_of_quiet {p : Ports} (hq : quiet p = true) (s : State) : edgeWrites p s = s := by
  obtain ⟨hr, he, hw⟩ := (quiet_iff p).mp hq
  simp [edgeWrites, hr, he, hw]

/-- An edge neither reads nor writes the record of the outputs. -/
theorem edgeWrites_setOutputs (p : Ports) (s : State) (r : ReadWord) :
    edgeWrites p (s.setOutputs r) = (edgeWrites p s).setOutputs r := by
  obtain hr | ⟨hr, he⟩ | ⟨hr, he, hw⟩ | hq := edge_cases p
  · simp only [edgeWrites_of_rst hr]; rfl
  · simp only [edgeWrites_of_berr hr he]; rfl
  · simp only [edgeWrites_of_cap hr he hw]; rfl
  · simp only [edgeWrites_of_quiet hq]

/-- Only a CAP edge reads `frame_in` (R23). -/
theorem edgeWrites_frameIn_of_noCapture {p : Ports} (h : noCapture p = true) (x : FrameWord) (s : State) :
    edgeWrites { p with frameIn := x } s = edgeWrites p s := by
  unfold edgeWrites
  obtain hr | ⟨hr, he⟩ | ⟨hr, he, hw⟩ | hq := edge_cases p
  · simp [hr]
  · simp [hr, he]
  · simp [noCapture, hr, he, hw] at h
  · obtain ⟨hr, he, hw⟩ := (quiet_iff p).mp hq
    simp [hr, he, hw]

/-- Only a CAP edge sets VALID (R13). -/
theorem edgeWrites_valid_of_noCapture {p : Ports} {s : State} (h : noCapture p = true) (hv : s.valid = false) :
    (edgeWrites p s).valid = false := by
  obtain hr | ⟨hr, he⟩ | ⟨hr, he, hw⟩ | hq := edge_cases p
  · rw [edgeWrites_of_rst hr]; rfl
  · rw [edgeWrites_of_berr hr he]; rfl
  · simp [noCapture, hr, he, hw] at h
  · rwa [edgeWrites_of_quiet hq]

/-! ### One cycle -/

theorem step_eq_next_iff {s t : State} : step s = .next t ↔ t = afterCycle s := by
  rw [step_afterCycle, Host.Outcome.next.injEq, eq_comm]

/-- A cycle whose inputs the script gives, whole. -/
theorem afterCycle_cons (s : State) (p : Ports) (rest : List Ports) :
    afterCycle { s with script := p :: rest } =
      edgeWrites p ((State.setDecoder { s with script := rest } (decoderOutputs s.frame)).setOutputs
        (readout s p.sel)) := rfl

/-- FRAME, VALID and BUSERR have their reset values (R12 to R14). -/
structure State.HasResetValues (s : State) : Prop where
  frame : s.frame = 0#32
  valid : s.valid = false
  buserr : s.buserr = false

/-- A reset edge gives the reset values from any state (R92). -/
theorem afterCycle_hasResetValues {s : State} (h : s.ports.rst = true) : (afterCycle s).HasResetValues := by
  rw [afterCycle, edgeWrites_of_rst h]
  exact ⟨rfl, rfl, rfl⟩

/-! ### The rules of a state after reset -/

/-- The two rules about FRAME, VALID and BUSERR (R15, R92) are all that is left to show of a state that a cycle leads to:
the other two hold after every cycle. -/
theorem sound_afterCycle {s : State} (hflags : ¬((afterCycle s).valid = true ∧ (afterCycle s).buserr = true))
    (hidle : (afterCycle s).valid = false → (afterCycle s).buserr = false → (afterCycle s).frame = 0#32) :
    (afterCycle s).Sound where
  flagsExclusive := hflags
  idleFrame := hidle
  invalidReadsZero := by
    simp only [afterCycle, edgeWrites_rvalid, edgeWrites_rdata, beforeEdge_rvalid, beforeEdge_rdata]
    exact readout_rdata_of_not_rvalid
  decoderCoherent := ⟨s.frame, by simp [afterCycle]⟩

theorem sound_afterCycle_of_rst {s : State} (h : s.ports.rst = true) : (afterCycle s).Sound := by
  obtain ⟨hf, hv, _⟩ := afterCycle_hasResetValues h
  exact sound_afterCycle (by simp [hv]) (fun _ _ => hf)

theorem State.Sound.afterCycle {s : State} (h : s.Sound) : (afterCycle s).Sound := by
  obtain hr | ⟨hr, he⟩ | ⟨hr, he, hw⟩ | hq := edge_cases s.ports
  · exact sound_afterCycle_of_rst hr
  · apply sound_afterCycle <;> simp [Machine.afterCycle, edgeWrites_of_berr hr he, State.recordBusError_eq]
  · apply sound_afterCycle <;> simp [Machine.afterCycle, edgeWrites_of_cap hr he hw, State.captureFrame_eq]
  · apply sound_afterCycle <;> rw [Machine.afterCycle, edgeWrites_of_quiet hq]
    · exact h.flagsExclusive
    · exact h.idleFrame

/-- Settles O42: the four kinds of edge, one by one. -/
theorem stepKeepsSound : Obligations.StepKeepsSound := by
  intro s t hs h
  rw [step_eq_next_iff.mp h]
  exact hs.afterCycle

/-- Settles O43: the zeros recorded for the decoder are the outputs of the zero frame. -/
theorem resetIsSound : Obligations.ResetIsSound := fun script undriven =>
  { flagsExclusive := by simp [State.reset]
    idleFrame := fun _ _ => rfl
    invalidReadsZero := fun _ => rfl
    decoderCoherent :=
      have hzero : State.reset.decoder = decoderOutputs 0#32 := by decide
      ⟨0#32, hzero⟩ }

theorem AfterReset.sound {s : State} (h : AfterReset s) : s.Sound := by
  induction h with
  | reset script undriven => exact resetIsSound script undriven
  | rstEdge hr h => rw [step_eq_next_iff.mp h]; exact sound_afterCycle_of_rst hr
  | step _ h ih => exact stepKeepsSound _ _ ih h

/-- Settles O44: every state after reset is sound, and STATUS is 0x0003 only with both flags 1. -/
theorem soundFromFirstReset : Obligations.SoundFromFirstReset := by
  intro s h
  exact ⟨h.sound, fun h3 => h.sound.flagsExclusive ((statusWord_eq_three_iff _ _).mp h3)⟩

/-! ### Two blocks that differ in what no output shows -/

theorem SameVisible.ports_eq {s t : State} (h : SameVisible s t) : s.ports = t.ports := by
  simp [State.ports, h.script, h.undriven]

/-- While VALID = 1 both hold the same FRAME; while VALID = 0 no select shows it (R16, R70). -/
theorem SameVisible.readout_eq {s t : State} (h : SameVisible s t) (sel : BitVec 3) :
    readout s sel = readout t sel := by
  cases hv : s.valid with
  | true => exact readout_congr (h.frame hv) h.valid h.buserr sel
  | false => exact readout_congr_invalid hv (h.valid ▸ hv) h.buserr sel

theorem SameVisible.beforeEdge {s t : State} (h : SameVisible s t) : SameVisible (beforeEdge s) (beforeEdge t) where
  valid := h.valid
  buserr := h.buserr
  frame := h.frame
  script := by simp [h.script]
  undriven := by simp [State.nextCycle, h.script, h.undriven]

theorem SameVisible.edgeWrites {s t : State} (h : SameVisible s t) (p : Ports) :
    SameVisible (edgeWrites p s) (edgeWrites p t) := by
  obtain hr | ⟨hr, he⟩ | ⟨hr, he, hw⟩ | hq := edge_cases p
  · simp only [edgeWrites_of_rst hr]
    exact ⟨rfl, rfl, fun _ => rfl, h.script, h.undriven⟩
  · simp only [edgeWrites_of_berr hr he]
    exact ⟨rfl, rfl, nofun, h.script, h.undriven⟩
  · simp only [edgeWrites_of_cap hr he hw]
    exact ⟨rfl, rfl, fun _ => rfl, h.script, h.undriven⟩
  · simpa only [edgeWrites_of_quiet hq] using h

theorem SameVisible.afterCycle {s t : State} (h : SameVisible s t) : SameVisible (afterCycle s) (afterCycle t) := by
  rw [Machine.afterCycle, Machine.afterCycle, ← h.ports_eq]
  exact h.beforeEdge.edgeWrites _

/-- Settles O55: both blocks have the same inputs, so they read the same and take the same kind of edge. -/
theorem stepKeepsSameVisible : Obligations.StepKeepsSameVisible := by
  intro s t s' t' h hs ht
  rw [step_eq_next_iff.mp hs, step_eq_next_iff.mp ht, afterCycle_observed, afterCycle_observed, ← h.ports_eq]
  exact ⟨h.readout_eq _, h.afterCycle⟩

/-- Settles O51, by induction on the number of cycles. -/
theorem hiddenFrameIsNeverShown : Obligations.HiddenFrameIsNeverShown := by
  intro s t h k
  induction k generalizing s t with
  | zero => rfl
  | succ k ih => rw [observations_succ, observations_succ, ← h.ports_eq, h.readout_eq, ih _ _ h.afterCycle]

/-! ### Runs over a script whose cycles keep an invariant -/

section Runs
variable {I : State → Prop} {Q : Ports → Prop}

/-- An invariant that every cycle with inputs in `Q` keeps holds after a run of such cycles. -/
theorem runSteps_of_invariant (hkeep : ∀ s, I s → Q s.ports → I (afterCycle s)) {ps rest : List Ports} {s : State}
    (hscript : s.script = ps ++ rest) (hQ : ∀ q ∈ ps, Q q) (hI : I s) :
    ∃ t, runSteps ps.length s = .next t ∧ I t ∧ t.script = rest := by
  induction ps generalizing s with
  | nil => exact ⟨s, rfl, hI, hscript⟩
  | cons p ps ih =>
    rw [List.forall_mem_cons] at hQ
    have hports : s.ports = p := s.ports_cons p _ hscript
    rw [List.length_cons, runSteps_succ]
    exact ih (by simp [hscript]) hQ.2 (hkeep s hI (hports ▸ hQ.1))

/-- Each cycle of such a run shows the readout of a state in the invariant, also the cycle whose own edge is the first
outside `Q` (R96). -/
theorem observations_of_invariant (hkeep : ∀ s, I s → Q s.ports → I (afterCycle s)) {ps rest : List Ports} {s : State}
    (hscript : s.script = ps ++ rest) (hQ : ∀ q ∈ ps.dropLast, Q q) (hI : I s) {k : Nat} {q : Ports}
    (hk : ps[k]? = some q) : ∃ u, I u ∧ (observations ps.length s)[k]? = some (readout u q.sel) := by
  induction ps generalizing s k with
  | nil => simp at hk
  | cons p ps ih =>
    have hports : s.ports = p := s.ports_cons p _ hscript
    rw [List.length_cons, observations_succ]
    cases k with
    | zero =>
      obtain rfl : p = q := by simpa using hk
      exact ⟨s, hI, by simp [hports]⟩
    | succ k =>
      rw [List.getElem?_cons_succ] at hk ⊢
      have hne : ps ≠ [] := by rintro rfl; simp at hk
      rw [List.dropLast_cons_of_ne_nil hne, List.forall_mem_cons] at hQ
      exact ih (by simp [hscript]) hQ.2 (hkeep s hI (hports ▸ hQ.1)) hk

end Runs

/-- Settles O45: the first reset edge gives the reset values from any state, and every further one gives them again. -/
theorem resetEdgesEstablishReset : Obligations.ResetEdgesEstablishReset := by
  intro s p ps rest hscript hrst
  rw [List.forall_mem_cons] at hrst
  have hports : s.ports = p := s.ports_cons p _ hscript
  have hfirst : (afterCycle s).HasResetValues := afterCycle_hasResetValues (hports ▸ hrst.1)
  obtain ⟨t, hrun, ⟨hf, hv, hb⟩, ht⟩ := runSteps_of_invariant (Q := (·.rst = true))
    (fun _ _ => afterCycle_hasResetValues) (by simp [hscript] : (afterCycle s).script = ps ++ rest) hrst.2 hfirst
  exact ⟨t, by rw [runSteps_succ, hrun], hf, hv, hb, ht⟩

/-- Settles O46: its state is one reset edge after the power-up state. -/
theorem bootEndsUnspecifiedState : Obligations.BootEndsUnspecifiedState := by
  intro p rest hrst
  have hports : ({ State.powerUp with script := p :: rest } : State).ports.rst = true := hrst
  obtain ⟨hf, hv, hb⟩ := afterCycle_hasResetValues hports
  exact ⟨_, step_afterCycle _, .rstEdge hports (step_afterCycle _), hf, hv, hb, afterCycle_script _⟩

/-- Settles O48: VALID = 0 is kept by every cycle that performs no CAP, and gates every data select. -/
theorem noReadingUntilNextCapture : Obligations.NoReadingUntilNextCapture := by
  intro s ps rest hscript hv hlast
  have hkeep : ∀ u : State, u.valid = false → noCapture u.ports = true → (afterCycle u).valid = false :=
    fun _ hu hp => edgeWrites_valid_of_noCapture hp hu
  constructor
  · intro k q hk hsel
    obtain ⟨u, hu, hobs⟩ := observations_of_invariant (Q := (noCapture · = true)) hkeep hscript hlast hv hk
    rw [hobs, readout_data_of_not_valid hu hsel]
  · intro hall
    obtain ⟨t, hrun, ht, _⟩ := runSteps_of_invariant (Q := (noCapture · = true)) hkeep hscript hall hv
    exact ⟨t, hrun, ht⟩

/-! ### The report -/

theorem lastOutcome_cons (last o : BusOutcome) (os : List BusOutcome) :
    lastOutcome last (o :: os) = lastOutcome (lastOutcome last [o]) os := by
  cases o <;> rfl

/-- One cycle of a host that does its duty leaves the report of the transaction presented in it, or the earlier report
where it presents none (R66, R68). -/
theorem afterCycle_report {o last : BusOutcome} {s : State} (hp : presents o s.ports = true)
    (hs : s.report = last.report) : (afterCycle s).report = (lastOutcome last [o]).report := by
  cases o with
  | none =>
    have hq : quiet s.ports = true := by simpa [presents, quiet_iff] using hp
    rw [afterCycle, edgeWrites_of_quiet hq]
    exact hs
  | frame w =>
    simp only [presents, Bool.and_eq_true, Bool.not_eq_true', beq_iff_eq] at hp
    obtain ⟨hr, ⟨he, hw⟩, hin⟩ := hp
    rw [afterCycle, edgeWrites_of_cap hr he hw, hin]
    rfl
  | busError =>
    simp only [presents, Bool.and_eq_true, Bool.not_eq_true'] at hp
    rw [afterCycle, edgeWrites_of_berr hp.1 hp.2]
    rfl

/-- Settles O52, by induction on the cycles, the earlier outcome being that of the cycles already run. -/
theorem reportIsLastOutcome : Obligations.ReportIsLastOutcome := by
  intro cycles
  induction cycles with
  | nil => exact fun _ s _ _ _ hs => ⟨s, rfl, hs⟩
  | cons c cycles ih =>
    intro rest s last hscript hduty hs
    rw [List.forall_mem_cons] at hduty
    have hports : s.ports = c.2 := s.ports_cons c.2 _ hscript
    have hnext := afterCycle_report (hports ▸ hduty.1) hs
    rw [List.length_cons, runSteps_succ, List.map_cons, lastOutcome_cons]
    exact ih rest _ _ (by simp [hscript]) hduty.2 hnext

/-! ### The statements about one operation and one cycle -/

/-- Settles O6: format by format. -/
theorem encodeOfDecode : Obligations.EncodeOfDecode := by
  intro c i h
  cases c with
  | frame w => exact encode_of_mem_decodeFrame h
  | ctrl c f => rw [List.mem_singleton.mp h]; exact encode_decodeCtrl c f
  | sel c => rw [List.mem_singleton.mp h]; exact encode_decodeSel c

/-- Settles O28: only RST, BERR and CAP write FRAME, VALID or BUSERR, and each writes fixed values. -/
theorem onlyCaptureOperationsWriteState : Obligations.OnlyCaptureOperationsWriteState := by
  intro i s t h
  obtain ⟨e, f, rfl, rfl⟩ | ⟨f, rfl, rfl⟩ | ⟨w, rfl, rfl⟩ | ⟨hf, hv, hb, hscript, hundriven⟩ := exec_cases h
  · simp [State.resetBlock_eq]
  · simp [State.recordBusError_eq]
  · simp [State.captureFrame_eq]
  · exact ⟨fun hne => absurd hf hne, fun hne => absurd hv hne, fun hne => absurd hb hne, hscript, hundriven⟩

/-- Settles O35: the word is the readout of the select code. -/
theorem readoutIsGated : Obligations.ReadoutIsGated := by
  intro s sel
  refine ⟨readout s sel, exec_decodeSel sel s, ?_, ?_, ?_, ?_, readout_rdata_of_not_rvalid⟩
  · intro s' hf hv hb
    rw [← readout_congr hf hv hb sel]
    exact exec_decodeSel sel s'
  · intro hdata
    rw [readout_rvalid, if_pos hdata]
  · intro hstatus
    obtain rfl : sel = 5#3 := BitVec.eq_of_toNat_eq hstatus
    rfl
  · intro hreserved
    obtain rfl | rfl := (assignedSel_eq_false_iff sel).mp hreserved <;> rfl

/-- Settles O41: `frame_in` reaches only the edge, which reads it only for CAP; `sel` reaches only the readout, whose word
the edge passes on. -/
theorem ignoredInputsHaveNoEffect : Obligations.IgnoredInputsHaveNoEffect := by
  constructor
  · intro s p x rest h
    rw [step_afterCycle, step_afterCycle, afterCycle_cons, afterCycle_cons, edgeWrites_frameIn_of_noCapture h x]
  · intro s p x rest
    refine ⟨_, _, step_afterCycle _, step_afterCycle _, ?_⟩
    rw [afterCycle_cons, afterCycle_cons, edgeWrites_setOutputs, edgeWrites_setOutputs]
    rfl

end Sys2Proof.Machine

namespace Sys2Proof.Machine

/-! ### A frame word's number, its bytes the digits to the base 256 -/

theorem toNat_append_byte {n : Nat} (x : BitVec n) (b : Byte) : (x ++ b).toNat = x.toNat * 256 + b.toNat := by
  rw [BitVec.toNat_append, ← Nat.shiftLeft_add_eq_or_of_lt b.isLt, Nat.shiftLeft_eq]

theorem frameOfBytes_toNat (b0 b1 b2 b3 : Byte) :
    (frameOfBytes b0 b1 b2 b3).toNat =
      b0.toNat * 16777216 + b1.toNat * 65536 + b2.toNat * 256 + b3.toNat := by
  simp only [frameOfBytes, toNat_append_byte]
  omega

theorem byte0_toNat (w : FrameWord) : (byte0 w).toNat = w.toNat / 16777216 := by
  have hw := w.isLt
  simp only [byte0, BitVec.extractLsb'_toNat, Nat.shiftRight_eq_div_pow]
  omega

theorem byte1_toNat (w : FrameWord) : (byte1 w).toNat = w.toNat / 65536 % 256 := by
  simp [byte1, Nat.shiftRight_eq_div_pow]

theorem byte2_toNat (w : FrameWord) : (byte2 w).toNat = w.toNat / 256 % 256 := by
  simp [byte2, Nat.shiftRight_eq_div_pow]

theorem byte3_toNat (w : FrameWord) : (byte3 w).toNat = w.toNat % 256 := by
  simp [byte3]

theorem frameOfBytes_bytes (w : FrameWord) : frameOfBytes (byte0 w) (byte1 w) (byte2 w) (byte3 w) = w := by
  apply BitVec.eq_of_toNat_eq
  rw [frameOfBytes_toNat, byte0_toNat, byte1_toNat, byte2_toNat, byte3_toNat]
  omega

/-- Settles O1: the bytes are the digits of the word's number to the base 256, so packing and unpacking are inverse. -/
theorem frameIsBigEndianBytes : Obligations.FrameIsBigEndianBytes := by
  refine ⟨frameOfBytes_bytes, fun b0 b1 b2 b3 => ?_⟩
  have hnum := frameOfBytes_toNat b0 b1 b2 b3
  have h1 := b1.isLt
  have h2 := b2.isLt
  have h3 := b3.isLt
  refine ⟨hnum, ?_, ?_, ?_, ?_⟩ <;> apply BitVec.eq_of_toNat_eq
  · rw [byte0_toNat]; omega
  · rw [byte1_toNat]; omega
  · rw [byte2_toNat]; omega
  · rw [byte3_toNat]; omega

/-! ### The source's windows: two bytes side by side, the lower one masked -/

theorem upperHalf_eq_bytes (w : FrameWord) : w.extractLsb' 16 16 = byte0 w ++ byte1 w :=
  (BitVec.extractLsb'_append_extractLsb'_eq_extractLsb' (x := w) (start₁ := 16) (len₁ := 8) (len₂ := 8) rfl).symm

theorem lowerHalf_eq_bytes (w : FrameWord) : w.extractLsb' 0 16 = byte2 w ++ byte3 w :=
  (BitVec.extractLsb'_append_extractLsb'_eq_extractLsb' (x := w) (start₁ := 0) (len₁ := 8) (len₂ := 8) rfl).symm

theorem shiftedByte_or_byte (hi lo : Byte) : hi.setWidth 16 <<< 8 ||| lo.setWidth 16 = hi ++ lo := by
  rw [← BitVec.setWidth_append_eq_shiftLeft_setWidth_or, BitVec.setWidth_eq]

/-- The low byte of the shifted byte is zero and the other byte is below 0x100 (R27). -/
theorem shiftedByte_and_byte (hi lo : Byte) : hi.setWidth 16 <<< 8 &&& lo.setWidth 16 = 0#16 := by
  have hhi : hi.setWidth 16 <<< 8 = hi ++ 0#8 := by simpa using shiftedByte_or_byte hi 0#8
  have hlo : lo.setWidth 16 = 0#8 ++ lo := by simpa using shiftedByte_or_byte 0#8 lo
  rw [hhi, hlo, BitVec.and_append, BitVec.and_zero, BitVec.zero_and, BitVec.zero_append_zero]

theorem shiftedByte_add_byte (hi lo : Byte) : hi.setWidth 16 <<< 8 + lo.setWidth 16 = hi ++ lo := by
  rw [BitVec.add_eq_or_of_and_eq_zero _ _ (shiftedByte_and_byte hi lo), shiftedByte_or_byte]

theorem probeWindow_eq_append (w : FrameWord) : probeWindow w = byte0 w ++ (byte1 w &&& 0xFC#8) :=
  shiftedByte_add_byte _ _

theorem refWindow_eq_append (w : FrameWord) : refWindow w = byte2 w ++ (byte3 w &&& 0xF0#8) :=
  shiftedByte_add_byte _ _

/-- A mask on the low byte of two. -/
theorem append_and_lowMask (hi lo m : Byte) : (hi ++ lo) &&& (0xFF#8 ++ m) = hi ++ (lo &&& m) := by
  rw [BitVec.and_append, show 0xFF#8 = BitVec.allOnes 8 from rfl, BitVec.and_allOnes]

/-- Masking the low `m` bits away leaves the upper `n` with zeros below. -/
theorem and_upperMask {n m : Nat} (x : BitVec (n + m)) :
    x &&& (BitVec.allOnes n ++ 0#m) = x.extractLsb' m n ++ 0#m := by
  conv_lhs => rw [← BitVec.extractLsb'_append_extractLsb' (x := x)]
  rw [BitVec.and_append, BitVec.and_allOnes, BitVec.and_zero]

/-- Settles O2: each window is its two bytes side by side, the lower one masked. -/
theorem windowsAreMaskedHalves : Obligations.WindowsAreMaskedHalves := by
  intro w
  rw [probeWindow_eq_append, refWindow_eq_append, upperHalf_eq_bytes, lowerHalf_eq_bytes]
  have hprobe : byte1 w &&& 0xFC#8 = (byte1 w).extractLsb' 2 6 ++ 0b00#2 := and_upperMask (n := 6) (m := 2) _
  have href : byte3 w &&& 0xF0#8 = (byte3 w).extractLsb' 4 4 ++ 0x0#4 := and_upperMask (n := 4) (m := 4) _
  exact ⟨(append_and_lowMask _ _ 0xFC#8).symm, congrArg _ hprobe, (append_and_lowMask _ _ 0xF0#8).symm, congrArg _ href,
    (toNat_append_byte _ _).symm, (toNat_append_byte _ _).symm, (shiftedByte_or_byte _ _).symm,
    (shiftedByte_or_byte _ _).symm, rfl, rfl⟩

/-! ### Idle cycles -/

/-- Two states with the same architectural state; the rest is the model's own. -/
structure SameArch (s t : State) : Prop where
  frame : t.frame = s.frame
  valid : t.valid = s.valid
  buserr : t.buserr = s.buserr

theorem SameArch.readout_eq {s t : State} (h : SameArch s t) (sel : BitVec 3) : readout t sel = readout s sel :=
  readout_congr h.frame h.valid h.buserr sel

/-- A cycle without a reset or a transaction keeps the architectural state (R65). -/
theorem SameArch.afterCycle_of_quiet {s t : State} (h : SameArch s t) (hq : quiet t.ports = true) :
    SameArch s (afterCycle t) := by
  rw [afterCycle, edgeWrites_of_quiet hq]
  exact ⟨h.frame, h.valid, h.buserr⟩

theorem observations_length (k : Nat) (s : State) : (observations k s).length = k := by
  induction k generalizing s with
  | zero => rfl
  | succ k ih => rw [observations_succ, List.length_cons, ih]

/-- The readouts of one state, through idle cycles and the cycle after them. -/
theorem observations_of_quiet {s : State} {ps rest : List Ports} (hscript : s.script = ps ++ rest)
    (hquiet : ∀ q ∈ ps.dropLast, quiet q = true) :
    observations ps.length s = ps.map (fun q => readout s q.sel) := by
  apply List.ext_getElem?
  intro k
  cases hk : ps[k]? with
  | none =>
    rw [List.getElem?_map, hk]
    simpa [observations_length] using hk
  | some q =>
    obtain ⟨u, hu, hobs⟩ := observations_of_invariant (I := SameArch s) (Q := (quiet · = true))
      (fun _ => SameArch.afterCycle_of_quiet) hscript hquiet ⟨rfl, rfl, rfl⟩ hk
    rw [hobs, List.getElem?_map, hk, hu.readout_eq, Option.map_some]

/-- Settles O49: an idle cycle keeps the architectural state, on which alone the readout depends. -/
theorem idleCyclesKeepReading : Obligations.IdleCyclesKeepReading := by
  intro s ps rest hscript hlast
  refine ⟨observations_of_quiet hscript hlast, fun hall => ?_⟩
  obtain ⟨t, hrun, ⟨hf, hv, hb⟩, ht⟩ := runSteps_of_invariant (I := SameArch s) (Q := (quiet · = true))
    (fun _ => SameArch.afterCycle_of_quiet) hscript hall ⟨rfl, rfl, rfl⟩
  exact ⟨t, hrun, hf, hv, hb, ht⟩

end Sys2Proof.Machine

namespace Sys2Proof.Machine

/-! ### The formats: what the bits of an operation decode to -/

theorem decodeCtrl_rst_bits (e g : Bool) (f : FrameWord) :
    decodeCtrl (0b1#1 ++ BitVec.ofBool e ++ BitVec.ofBool g) f = .rst e g := by
  cases e <;> cases g <;> rfl

theorem decodeCtrl_berr_bits (g : Bool) (f : FrameWord) :
    decodeCtrl (0b01#2 ++ BitVec.ofBool g) f = .berr g := by
  cases g <;> rfl

/-- Format by format: a FRAME word feeds the operation, a CTRL or SEL value selects it (R35, R38, R39). -/
theorem mem_decode_encode (i : Instr) : i ∈ decode (encode i) := by
  cases i with
  | rst e g => exact List.mem_singleton.mpr (decodeCtrl_rst_bits e g _).symm
  | berr g => exact List.mem_singleton.mpr (decodeCtrl_berr_bits g _).symm
  | cap | nop | rdProbe | rdRef | rdFault | rdRawhi | rdRawlo | rdStatus | rdRsvd6 | rdRsvd7 =>
    exact List.mem_singleton.mpr rfl
  | probeField w | probeSext w | probeScale w | refField w | refSext w | refScale w | faultScv w | faultScg w
  | faultOc w | faultAgg w | decode w =>
    simp [encode, Sys2Proof.decode, decodeFrame]

/-- In the CTRL and SEL formats the bits stand for one operation only. -/
theorem decode_eq_singleton {c : Code} {i : Instr} (hc : ∀ w, c ≠ .frame w) (h : i ∈ decode c) : decode c = [i] := by
  cases c with
  | frame w => exact absurd rfl (hc w)
  | ctrl c f => rw [List.mem_singleton.mp h]; rfl
  | sel c => rw [List.mem_singleton.mp h]; rfl

theorem decodeFrame_nodup (w : FrameWord) : (decodeFrame w).Nodup := by
  simp [decodeFrame]

/-- Settles O5: every operation is among those its bits stand for, one in the CTRL and SEL formats and eleven in the
FRAME format. -/
theorem decodeOfEncode : Obligations.DecodeOfEncode := by
  intro i _
  have hmem := mem_decode_encode i
  refine ⟨hmem, fun hformat => decode_eq_singleton hformat hmem, fun w hw => ?_⟩
  rw [hw] at hmem
  exact ⟨hmem, rfl, decodeFrame_nodup w⟩

/-! ### The rows of CTRL and SEL -/

/-- Settles O3: CTRL's bits are the three inputs, and the rows are read off over the eight values. -/
theorem ctrlRowsDisjointAndTotal : Obligations.CtrlRowsDisjointAndTotal := by
  refine ⟨fun p => ⟨ctrl_bit_rst p, ctrl_bit_busErr p, ctrl_bit_frameWe p⟩, fun c f => ?_⟩
  have hrows : (ctrlRows.filter (fun r => r.selects c)).length = 1 := by
    revert c; decide
  refine ⟨hrows, ?_⟩
  rcases sel_cases c with rfl | rfl | rfl | rfl | rfl | rfl | rfl | rfl <;> simp [decodeCtrl]

/-- Settles O4: over the eight values. -/
theorem selCodesNameTheirReadouts : Obligations.SelCodesNameTheirReadouts := by
  refine ⟨fun c => ?_, rfl⟩
  revert c
  decide

/-- Settles O10: by evaluation of the decoders on the written words. -/
theorem sampleWordsDecode : Obligations.SampleWordsDecode := by
  unfold Obligations.SampleWordsDecode
  decide

/-! ### The CYC word: CTRL above SEL -/

@[simp] theorem cyc_extract_ctrl (p : Ports) : p.cyc.extractLsb' 3 3 = p.ctrl := BitVec.extractLsb'_append_eq_left

@[simp] theorem cyc_extract_sel (p : Ports) : p.cyc.extractLsb' 0 3 = p.sel := by
  rw [Ports.cyc, BitVec.extractLsb'_append_eq_of_add_le (by decide), BitVec.extractLsb'_eq_self]

/-- The bits of a CYC word above SEL are those of CTRL. -/
theorem cyc_getLsbD (p : Ports) (i : Nat) : p.cyc.getLsbD (3 + i) = p.ctrl.getLsbD i := by
  rw [Ports.cyc, BitVec.getLsbD_append, if_neg (by omega), Nat.add_sub_cancel_left]

/-- A cycle is told by its CYC word and its `frame_in` (R41). -/
theorem portsOfCyc_cyc (p : Ports) : portsOfCyc p.cyc p.frameIn = p := by
  have hrst : p.cyc.getLsbD 5 = p.rst := (cyc_getLsbD p 2).trans (ctrl_bit_rst p)
  have hberr : p.cyc.getLsbD 4 = p.busErr := (cyc_getLsbD p 1).trans (ctrl_bit_busErr p)
  have hwe : p.cyc.getLsbD 3 = p.frameWe := (cyc_getLsbD p 0).trans (ctrl_bit_frameWe p)
  rw [portsOfCyc, hrst, hberr, hwe, cyc_extract_sel]

/-- A 3-bit value is its three bits side by side. -/
theorem ofBool_append_bits (c : BitVec 3) :
    BitVec.ofBool (c.getLsbD 2) ++ BitVec.ofBool (c.getLsbD 1) ++ BitVec.ofBool (c.getLsbD 0) = c := by
  revert c; decide

@[simp] theorem portsOfCyc_sel (c : BitVec 6) (f : FrameWord) : (portsOfCyc c f).sel = c.extractLsb' 0 3 := rfl

@[simp] theorem portsOfCyc_ctrl (c : BitVec 6) (f : FrameWord) : (portsOfCyc c f).ctrl = c.extractLsb' 3 3 := by
  rw [← ofBool_append_bits (c.extractLsb' 3 3)]
  simp [Ports.ctrl, portsOfCyc]

theorem cyc_portsOfCyc (c : BitVec 6) (f : FrameWord) : (portsOfCyc c f).cyc = c := by
  rw [Ports.cyc, portsOfCyc_ctrl, portsOfCyc_sel]
  exact BitVec.extractLsb'_append_extractLsb'

/-- Settles O7: the CYC word is CTRL above SEL, and CTRL is its three inputs. -/
theorem cycWordRoundTrip : Obligations.CycWordRoundTrip :=
  ⟨fun p => ⟨portsOfCyc_cyc p, cyc_extract_ctrl p, cyc_extract_sel p⟩, fun c f => ⟨cyc_portsOfCyc c f, rfl⟩⟩

/-! ### A script line's cycle -/

/-- A line without a read drives `sel` = 0b000 (R42). -/
theorem linePorts_sel (l : Line) : (linePorts l).sel = l.read.elim 0b000#3 selCode := by
  obtain ⟨wop, read, expect⟩ := l
  cases wop <;> cases read <;> rfl

theorem linePorts_sel_of_read {l : Line} {r : ReadSel} (h : l.read = some r) : (linePorts l).sel = selCode r := by
  rw [linePorts_sel, h, Option.elim_some]

/-- Settles O8: CTRL and `frame_in` by the line's operation, SEL by its read. -/
theorem scriptLineCycWord : Obligations.ScriptLineCycWord := by
  refine ⟨fun l => ?_, rfl, rfl, rfl, rfl, rfl, rfl, rfl, rfl, rfl, rfl⟩
  rw [cyc_extract_ctrl, cyc_extract_sel]
  refine ⟨?_, ?_, ?_, fun r => linePorts_sel_of_read, ?_⟩
  · obtain ⟨wop, read, expect⟩ := l
    cases wop <;> simp [linePorts, Ports.ctrl]
  · rw [linePorts_sel]
    cases l.read with
    | none => rfl
    | some r => cases r <;> rfl
  · obtain ⟨wop, read, expect⟩ := l
    cases wop <;> rfl
  · obtain ⟨wop, read, expect⟩ := l
    cases wop <;> simp [linePorts, Ports.assembled]

/-! ### Table words -/

theorem decodeTable_of_decodeTableWord {nbits w : Nat} {i : Instr} (h : decodeTableWord nbits w = some i) :
    decodeTable nbits w = .ok i := by
  unfold decodeTableWord at h
  cases hd : decodeTable nbits w with
  | ok j => rw [hd] at h; exact congrArg _ (Option.some.inj h)
  | error e => rw [hd] at h; cases h

/-- A 32-bit table word that the decoder accepts stands for DECODE of it (log entry 1). -/
theorem eq_decode_of_decodeTable_32 {w : Nat} {i : Instr} (h : decodeTable 32 w = .ok i) :
    i = .decode (BitVec.ofNat 32 w) := by
  unfold decodeTable at h
  split at h
  · split at h <;> cases h; rfl
  · contradiction

/-- A shorter table word that the decoder accepts is a CYC word (log entry 1). -/
theorem eq_decodeCyc_of_decodeTable {nbits w : Nat} {i : Instr} (hn : nbits ≠ 32) (h : decodeTable nbits w = .ok i) :
    i = decodeCyc (BitVec.ofNat 6 w) := by
  unfold decodeTable at h
  rw [if_neg hn] at h
  split at h
  · split at h <;> cases h; rfl
  · split at h
    · split at h <;> cases h; rfl
    · cases h

/-- A 32-bit word goes into FRAME, in front of an idle cycle (log entry 1). -/
theorem withFetchWord_32 {s : State} {w : Nat} {i : Instr} (h : decodeTable 32 w = .ok i) :
    s.withFetchWord 32 w = { s with frame := BitVec.ofNat 32 w, script := idlePorts :: s.script } := by
  rw [State.withFetchWord, placeTableWord, h]; rfl

/-- A shorter word is the cycle of its CYC word (log entry 1). -/
theorem withFetchWord_cyc {s : State} {nbits w : Nat} {i : Instr} (hn : nbits ≠ 32)
    (h : decodeTable nbits w = .ok i) :
    s.withFetchWord nbits w = { s with script := portsOfCyc (BitVec.ofNat 6 w) 0#32 :: s.script } := by
  rw [State.withFetchWord, placeTableWord, h]
  exact if_neg hn

theorem decode_mem_cycleInstrs (w : FrameWord) (p : Ports) : .decode w ∈ cycleInstrs w p := by
  simp [cycleInstrs, decodeFrame]

/-- The operation a CYC word stands for is the read or the CTRL operation of its cycle. -/
theorem decodeCyc_mem_cycleInstrs (c : BitVec 6) (frame : FrameWord) :
    decodeCyc c ∈ cycleInstrs frame (portsOfCyc c 0#32) := by
  rw [cycleInstrs, portsOfCyc_sel, portsOfCyc_ctrl, decodeCyc]
  apply List.mem_append_right
  split
  · exact List.mem_cons_self
  · exact List.mem_cons_of_mem _ List.mem_cons_self

/-- Settles O38: a 32-bit word becomes the FRAME that the next cycle decodes, a shorter one the next cycle itself. -/
theorem placedWordIsRunNext : Obligations.PlacedWordIsRunNext := by
  intro s nbits w i h
  have hok := decodeTable_of_decodeTableWord h
  by_cases hn : nbits = 32
  · subst hn
    obtain rfl := eq_decode_of_decodeTable_32 hok
    rw [withFetchWord_32 hok]
    exact ⟨decode_mem_cycleInstrs _ _, rfl, rfl, fun hne => absurd rfl hne, rfl⟩
  · obtain rfl := eq_decodeCyc_of_decodeTable hn hok
    rw [withFetchWord_cyc hn hok]
    exact ⟨decodeCyc_mem_cycleInstrs _ _, rfl, rfl, fun _ => rfl, rfl⟩

/-! ### One step -/

/-- The decoder's outputs for a word stay as they are when one of its operations runs again (R45). -/
theorem exec_of_mem_decodeFrame {w : FrameWord} {i : Instr} (h : i ∈ decodeFrame w) {s : State}
    (hs : s.decoder = decoderOutputs w) : exec i s = .next s := by
  have hsame : s.setDecoder (decoderOutputs w) = s := by rw [← hs]; rfl
  rw [← hsame]
  simp only [decodeFrame, List.mem_cons, List.not_mem_nil, or_false] at h
  rcases h with rfl | rfl | rfl | rfl | rfl | rfl | rfl | rfl | rfl | rfl | rfl <;> rfl

/-- Settles O37: the state before the edge, phase by phase. -/
theorem stepRunsTheDecodedOperations : Obligations.StepRunsTheDecodedOperations := by
  intro s
  have hread : readout (s.nextCycle.setDecoder (decoderOutputs s.frame)) s.ports.sel = readout s s.ports.sel :=
    readout_congr rfl rfl rfl _
  refine ⟨s.nextCycle.setDecoder (decoderOutputs s.frame), beforeEdge s, afterCycle s, rfl,
    fun i hi => exec_of_mem_decodeFrame hi rfl, execSeq_decodeFrame _ _, ?_, exec_decodeCtrl _ _, step_afterCycle s, rfl,
    rfl, rfl, rfl⟩
  rw [exec_decodeSel, hread, beforeEdge]

/-! ### The bits of a frame word that its reading shows -/

theorem extractLsb'_eq_iff_getLsbD {n : Nat} (x y : BitVec n) (start len : Nat) :
    x.extractLsb' start len = y.extractLsb' start len ↔
      ∀ i < len, x.getLsbD (start + i) = y.getLsbD (start + i) := by
  rw [BitVec.eq_of_getLsbD_eq_iff]
  refine forall₂_congr fun i hi => ?_
  simp [hi]

/-- Extending the sign loses no bit. -/
theorem signExtend_eq_signExtend_iff {n m : Nat} (h : n ≤ m) (x y : BitVec n) :
    x.signExtend m = y.signExtend m ↔ x = y := by
  refine ⟨fun heq => ?_, congrArg _⟩
  rw [← BitVec.toInt_inj, BitVec.toInt_signExtend_of_le h, BitVec.toInt_signExtend_of_le h] at heq
  exact BitVec.eq_of_toInt_eq heq

theorem readingOf_eq_iff_fields (w w' : FrameWord) :
    readingOf w = readingOf w' ↔
      (∀ i < 14, w.getLsbD (18 + i) = w'.getLsbD (18 + i)) ∧ (∀ i < 12, w.getLsbD (4 + i) = w'.getLsbD (4 + i)) ∧
        w.getLsbD 2 = w'.getLsbD 2 ∧ w.getLsbD 1 = w'.getLsbD 1 ∧ w.getLsbD 0 = w'.getLsbD 0 ∧
        w.getLsbD 16 = w'.getLsbD 16 := by
  rw [← extractLsb'_eq_iff_getLsbD, ← extractLsb'_eq_iff_getLsbD,
    ← signExtend_eq_signExtend_iff (by decide : 14 ≤ 16), ← signExtend_eq_signExtend_iff (by decide : 12 ≤ 16)]
  exact iff_of_eq (Reading.mk.injEq ..)

/-- The six fields of a reading cover every bit of the frame but W[17] and W[3] (R37, R57). -/
theorem readingOf_eq_iff (w w' : FrameWord) :
    readingOf w = readingOf w' ↔ ∀ i < 32, i ≠ 17 ∧ i ≠ 3 → w.getLsbD i = w'.getLsbD i := by
  rw [readingOf_eq_iff_fields]
  constructor
  · rintro ⟨hprobe, href, h2, h1, h0, h16⟩ i hi ⟨h17, h3⟩
    by_cases hp : 18 ≤ i
    · simpa [Nat.add_sub_of_le hp] using hprobe (i - 18) (by omega)
    by_cases hr : 4 ≤ i ∧ i < 16
    · simpa [Nat.add_sub_of_le hr.1] using href (i - 4) (by omega)
    obtain rfl | rfl | rfl | rfl : i = 2 ∨ i = 1 ∨ i = 0 ∨ i = 16 := by omega
    all_goals assumption
  · intro h
    exact ⟨fun i hi => h _ (by omega) (by omega), fun i hi => h _ (by omega) (by omega), h 2 (by decide) (by decide),
      h 1 (by decide) (by decide), h 0 (by decide) (by decide), h 16 (by decide) (by decide)⟩

/-- Two words agree under a mask exactly when they agree on the bits the mask keeps. -/
theorem and_eq_and_iff_getLsbD {n : Nat} (x y m : BitVec n) :
    x &&& m = y &&& m ↔ ∀ i < n, m.getLsbD i = true → x.getLsbD i = y.getLsbD i := by
  rw [BitVec.eq_of_getLsbD_eq_iff]
  refine forall₂_congr fun i _ => ?_
  rw [BitVec.getLsbD_and, BitVec.getLsbD_and]
  cases m.getLsbD i <;> simp

/-- The mask keeps every bit but W[17] and W[3] (R37). -/
theorem usedBitsMask_getLsbD : ∀ i < 32, (0xFFFDFFF7#32).getLsbD i = true ↔ i ≠ 17 ∧ i ≠ 3 := by decide

theorem readingOf_eq_iff_masked (w w' : FrameWord) :
    readingOf w = readingOf w' ↔ w &&& 0xFFFDFFF7#32 = w' &&& 0xFFFDFFF7#32 := by
  rw [readingOf_eq_iff, and_eq_and_iff_getLsbD]
  refine forall₂_congr fun i hi => ?_
  rw [usedBitsMask_getLsbD i hi]

theorem exec_decode_eq_iff (w w' : FrameWord) (s : State) :
    exec (.decode w) s = exec (.decode w') s ↔ readingOf w = readingOf w' := by
  simp [exec, execDecode, State.setDecoder]

/-- Settles O19: DECODE shows the reading, and the reading shows every bit but two. -/
theorem decodeIgnoresExactlyTheUnusedBits : Obligations.DecodeIgnoresExactlyTheUnusedBits :=
  fun w w' s => (exec_decode_eq_iff w w' s).trans (readingOf_eq_iff_masked w w')

/-! ### Scripts -/

/-- An edge neither reads nor writes the inputs to come. -/
theorem edgeWrites_script_comm (p : Ports) (s : State) (rest : List Ports) :
    edgeWrites p { s with script := rest } = { edgeWrites p s with script := rest } := by
  obtain hr | ⟨hr, he⟩ | ⟨hr, he, hw⟩ | hq := edge_cases p
  · simp only [edgeWrites_of_rst hr]; rfl
  · simp only [edgeWrites_of_berr hr he]; rfl
  · simp only [edgeWrites_of_cap hr he hw]; rfl
  · simp only [edgeWrites_of_quiet hq]

/-- The state after the cycle of one line, run alone (R42). -/
def afterLine (l : Line) (s : State) : State := afterCycle { s with script := [linePorts l] }

theorem step_afterLine (l : Line) (s : State) : step { s with script := [linePorts l] } = .next (afterLine l s) :=
  step_afterCycle _

/-- Running a line alone and then placing the rest is running the placed whole for one cycle. -/
theorem afterCycle_withScript_cons (l : Line) (ls : List Line) (s : State) :
    afterCycle (s.withScript (l :: ls)) = (afterLine l s).withScript ls := by
  rw [State.withScript, List.map_cons, afterCycle_cons, afterLine, afterCycle_cons, State.withScript,
    ← edgeWrites_script_comm]
  rfl

/-- A line alone is met by the readout of the state before its edge (R42, R96). -/
theorem scriptMet_cons (l : Line) (ls : List Line) (s : State) :
    scriptMet (l :: ls) s = (expectationMet l (readout s (linePorts l).sel) && scriptMet ls (afterLine l s)) := by
  have hobs : (afterLine l s).observed = readout s (linePorts l).sel :=
    (afterCycle_observed _).trans (readout_congr rfl rfl rfl _)
  rw [scriptMet, step_afterLine, ← hobs]

theorem observations_withScript_cons (l : Line) (ls : List Line) (s : State) :
    observations (l :: ls).length (s.withScript (l :: ls)) =
      readout s (linePorts l).sel :: observations ls.length ((afterLine l s).withScript ls) := by
  rw [List.length_cons, observations_succ, afterCycle_withScript_cons, readout_congr rfl rfl rfl]
  rfl

/-- By induction on the lines: both sides check the readout before the first line's edge and go on from one state. -/
theorem scriptMet_eq_observations (ls : List Line) (s : State) :
    scriptMet ls s = (List.zipWith expectationMet ls (observations ls.length (s.withScript ls))).all id := by
  induction ls generalizing s with
  | nil => rfl
  | cons l ls ih =>
    rw [scriptMet_cons, ih, observations_withScript_cons, List.zipWith_cons_cons, List.all_cons, id]

/-- Settles O54: line by line, the readout before the edge of a line alone is the one its cycle in the whole shows. -/
theorem scriptRunsAsItsCycles : Obligations.ScriptRunsAsItsCycles := by
  refine ⟨scriptMet_eq_observations, fun _ => rfl, fun l ls s => ⟨afterLine l s, step_afterLine l s, ?_⟩,
    fun l r h => congrArg decodeSel (linePorts_sel_of_read h)⟩
  rw [scriptMet_cons, Bool.and_eq_true, expectationMet_iff]

end Sys2Proof.Machine

namespace Sys2Proof.Machine

/-! ### Words of the script text -/

/-- The characters that end a word (R42, log entry 8). -/
abbrev separators : List Char := [';', ',', ' ', '\t', '\r']

/-- A word of the script text: characters none of which ends a word. -/
abbrev IsWord (t : Token) : Prop := t ≠ [] ∧ ∀ c ∈ t, c ∉ separators

/-- A text in front of which a word ends: nothing, or a separator first. -/
abbrev EndsWord (cs : List Char) : Prop := ∀ c ∈ cs.head?, c ∈ separators

theorem flushToken_of_ne_nil {acc : Token} (h : acc ≠ []) (rest : List Token) :
    flushToken acc rest = acc.reverse :: rest := by
  cases acc with
  | nil => exact absurd rfl h
  | cons c cs => rfl

theorem tokensFrom_char {c : Char} (h : c ∉ separators) (acc : Token) (cs : List Char) :
    tokensFrom acc (c :: cs) = tokensFrom (c :: acc) cs := by
  simp only [separators, List.mem_cons, List.not_mem_nil, or_false, not_or] at h
  obtain ⟨hsemi, hcomma, hblanks⟩ := h
  rw [tokensFrom, if_neg hsemi, if_neg hcomma, if_neg (by simpa using hblanks)]

theorem tokensFrom_chars {t : Token} (h : ∀ c ∈ t, c ∉ separators) (acc : Token) (cs : List Char) :
    tokensFrom acc (t ++ cs) = tokensFrom (t.reverse ++ acc) cs := by
  induction t generalizing acc with
  | nil => rfl
  | cons c t ih =>
    rw [List.forall_mem_cons] at h
    rw [List.cons_append, tokensFrom_char h.1, ih h.2]
    simp

theorem tokensFrom_of_endsWord {cs : List Char} (h : EndsWord cs) (acc : Token) :
    tokensFrom acc cs = flushToken acc (tokensFrom [] cs) := by
  cases cs with
  | nil => rfl
  | cons c cs =>
    have hc : c ∈ separators := h c rfl
    simp only [separators, List.mem_cons, List.not_mem_nil, or_false] at hc
    rcases hc with rfl | rfl | rfl | rfl | rfl <;> rfl

/-- A word that ends is one token. -/
theorem tokensFrom_word {t : Token} (ht : IsWord t) {cs : List Char} (hcs : EndsWord cs) :
    tokensFrom [] (t ++ cs) = t :: tokensFrom [] cs := by
  rw [tokensFrom_chars ht.2, tokensFrom_of_endsWord hcs, List.append_nil,
    flushToken_of_ne_nil (by simpa using ht.1), List.reverse_reverse]

theorem tokensFrom_blank (cs : List Char) : tokensFrom [] (' ' :: cs) = tokensFrom [] cs := rfl

/-! ### Hexadecimal words: printed and read back -/

theorem hexDigit_hexChar (d : BitVec 4) : hexDigit (hexChar d) = some d.toNat := by
  revert d; decide

theorem hexChar_not_separator (d : BitVec 4) : hexChar d ∉ separators := by
  revert d; decide

theorem hexDigits_hexChar_cons (acc : Nat) (d : BitVec 4) (cs : List Char) :
    hexDigits acc (hexChar d :: cs) = hexDigits (acc * 16 + d.toNat) cs := by
  rw [hexDigits, hexDigit_hexChar]

theorem parseHex_zero_x (ds : List Char) : parseHex ds.length ('0' :: 'x' :: ds) = hexDigits 0 ds := if_pos rfl

/-- The text holds the word's eight digits to the base 16. -/
theorem parseHex_renderHex32 (w : FrameWord) : parseHex 8 (renderHex32 w) = some w.toNat := by
  have hw := w.isLt
  refine (parseHex_zero_x _).trans ?_
  simp only [hexDigits_hexChar_cons, BitVec.extractLsb'_toNat, Nat.shiftRight_eq_div_pow]
  exact congrArg some (by omega)

theorem parseHex_renderHex16 (v : Half) : parseHex 4 (renderHex16 v) = some v.toNat := by
  have hv := v.isLt
  refine (parseHex_zero_x _).trans ?_
  simp only [hexDigits_hexChar_cons, BitVec.extractLsb'_toNat, Nat.shiftRight_eq_div_pow]
  exact congrArg some (by omega)

theorem isWord_renderHex32 (w : FrameWord) : IsWord (renderHex32 w) := by
  refine ⟨nofun, ?_⟩
  simp only [renderHex32, List.forall_mem_cons, hexChar_not_separator]
  simp

theorem isWord_renderHex16 (v : Half) : IsWord (renderHex16 v) := by
  refine ⟨nofun, ?_⟩
  simp only [renderHex16, List.forall_mem_cons, hexChar_not_separator]
  simp

/-! ### The tokens of each part of a line, and what the parser makes of them -/

/-- The tokens of an operation. -/
def wopTokens : WriteOp → List Token
  | .rst => [['R', 'S', 'T']]
  | .berr => [['B', 'E', 'R', 'R']]
  | .nop => [['N', 'O', 'P']]
  | .cap w => [['C', 'A', 'P'], renderHex32 w]
  | .capberr w => [['C', 'A', 'P', 'B', 'E', 'R', 'R'], renderHex32 w]

/-- The token of an expectation's `rvalid`. -/
def rvalidToken (b : Bool) : Token := [if b then '1' else '0']

/-- The tokens of an expectation. -/
def expectTokens : Option Expect → List Token
  | none => []
  | some x => [['-', '>'], renderHex16 x.rdata, rvalidToken x.rvalid]

theorem tokensFrom_renderWriteOp (op : WriteOp) {cs : List Char} (h : EndsWord cs) :
    tokensFrom [] (renderWriteOp op ++ cs) = wopTokens op ++ tokensFrom [] cs := by
  cases op with
  | rst | berr | nop => exact tokensFrom_word (by simp [IsWord, renderWriteOp]) h
  | cap w | capberr w => exact congrArg (_ :: ·) (tokensFrom_word (isWord_renderHex32 w) h)

theorem endsWord_renderExpect (x : Option Expect) : EndsWord (renderExpect x) := by
  cases x with
  | none => exact nofun
  | some x => rintro _ ⟨⟩; decide

theorem tokensFrom_renderExpect (x : Option Expect) : tokensFrom [] (renderExpect x) = expectTokens x := by
  cases x with
  | none => rfl
  | some x =>
    have hdata := tokensFrom_word (isWord_renderHex16 x.rdata) (cs := ' ' :: rvalidToken x.rvalid)
      (by rintro _ ⟨⟩; decide)
    have hrvalid : tokensFrom [] (rvalidToken x.rvalid) = [rvalidToken x.rvalid] := by
      cases x.rvalid <;> rfl
    rw [tokensFrom_blank, hrvalid] at hdata
    exact congrArg (_ :: ·) hdata

theorem isWord_renderSel (r : ReadSel) : IsWord (renderSel r) := by
  cases r <;> simp [IsWord, renderSel]

theorem parseSel_renderSel (r : ReadSel) : parseSel (renderSel r) = some r := by
  cases r <;> rfl

theorem parseExpect_expectTokens (x : Option Expect) : parseExpect (expectTokens x) = .ok x := by
  cases x with
  | none => rfl
  | some x =>
    obtain ⟨rdata, rvalid⟩ := x
    rw [expectTokens, parseExpect, if_pos rfl, parseHex_renderHex16]
    cases rvalid <;> simp [rvalidToken]

theorem parseRead_renderSel (op : WriteOp) (r : ReadSel) (x : Option Expect) :
    parseRead op (['R', 'D'] :: renderSel r :: expectTokens x) = .ok ⟨op, some r, x⟩ := by
  rw [parseRead, if_pos rfl, parseSel_renderSel, parseExpect_expectTokens]

theorem parseFrameOp_renderHex32 (op : FrameWord → WriteOp) (w : FrameWord) (ts : List Token) :
    parseFrameOp op (renderHex32 w :: ts) = parseTail (op w) ts := by
  rw [parseFrameOp, parseHex_renderHex32]
  simp

theorem parseTokens_wopTokens (op : WriteOp) (ts : List Token) :
    parseTokens (wopTokens op ++ ts) = parseTail op ts := by
  cases op with
  | rst | berr | nop => rfl
  | cap w => exact parseFrameOp_renderHex32 .cap w ts
  | capberr w => exact parseFrameOp_renderHex32 .capberr w ts

/-! ### A line: its operation, then nothing or a comma and a read -/

theorem parseLine_writeOp (op : WriteOp) : parseLine (renderWriteOp op) = .ok ⟨op, none, none⟩ := by
  have htokens := tokensFrom_renderWriteOp op (cs := []) nofun
  rw [List.append_nil] at htokens
  rw [parseLine, htokens, parseTokens_wopTokens]
  rfl

/-- The tokens of a read and its expectation. -/
theorem tokensFrom_read (r : ReadSel) (x : Option Expect) :
    tokensFrom [] ([',', ' ', 'R', 'D', ' '] ++ (renderSel r ++ renderExpect x)) =
      [','] :: ['R', 'D'] :: renderSel r :: expectTokens x := by
  rw [← tokensFrom_renderExpect x, ← tokensFrom_word (isWord_renderSel r) (endsWord_renderExpect x)]
  rfl

theorem parseLine_read (op : WriteOp) (r : ReadSel) (x : Option Expect) :
    parseLine (renderLine ⟨op, some r, x⟩) = .ok ⟨op, some r, x⟩ := by
  have hends : EndsWord ([',', ' ', 'R', 'D', ' '] ++ (renderSel r ++ renderExpect x)) := by
    rintro _ ⟨⟩; decide
  have htext : renderLine ⟨op, some r, x⟩ =
      renderWriteOp op ++ ([',', ' ', 'R', 'D', ' '] ++ (renderSel r ++ renderExpect x)) := by
    simp [renderLine]
  rw [parseLine, htext, tokensFrom_renderWriteOp op hends, tokensFrom_read,
    parseTokens_wopTokens, parseTail, if_pos rfl, parseRead_renderSel]

/-- Settles O9: part by part, the text is cut into the tokens of the line, and these are parsed back. -/
theorem scriptTextRoundTrip : Obligations.ScriptTextRoundTrip := by
  rintro ⟨op, read, x⟩ hwf
  cases read with
  | none =>
    obtain rfl : x = none := by simpa [Line.wellFormed] using hwf
    exact parseLine_writeOp op
  | some r => exact parseLine_read op r x

end Sys2Proof.Machine

namespace Sys2Proof.Machine

/-! ### The eleven FRAME operations: which output of the decoder each one writes -/

@[simp] theorem exec_probeField (w : FrameWord) (s : State) :
    exec (.probeField w) s = .next { s with decoder := { s.decoder with probeRaw14 := probeRaw14 w } } := rfl

@[simp] theorem exec_probeSext (w : FrameWord) (s : State) :
    exec (.probeSext w) s = .next { s with decoder := { s.decoder with probeQ := probeQ w } } := rfl

@[simp] theorem exec_probeScale (w : FrameWord) (s : State) :
    exec (.probeScale w) s =
      .next { s with decoder := { s.decoder with probeTemperature := probeTemperature (probeQ w) } } := rfl

@[simp] theorem exec_refField (w : FrameWord) (s : State) :
    exec (.refField w) s = .next { s with decoder := { s.decoder with refRaw12 := refRaw12 w } } := rfl

@[simp] theorem exec_refSext (w : FrameWord) (s : State) :
    exec (.refSext w) s = .next { s with decoder := { s.decoder with refQ := refQ w } } := rfl

@[simp] theorem exec_refScale (w : FrameWord) (s : State) :
    exec (.refScale w) s =
      .next { s with decoder := { s.decoder with refTemperature := refTemperature (refQ w) } } := rfl

@[simp] theorem exec_faultScv (w : FrameWord) (s : State) :
    exec (.faultScv w) s = .next { s with decoder := { s.decoder with scv := scv w } } := rfl

@[simp] theorem exec_faultScg (w : FrameWord) (s : State) :
    exec (.faultScg w) s = .next { s with decoder := { s.decoder with scg := scg w } } := rfl

@[simp] theorem exec_faultOc (w : FrameWord) (s : State) :
    exec (.faultOc w) s = .next { s with decoder := { s.decoder with oc := oc w } } := rfl

@[simp] theorem exec_faultAgg (w : FrameWord) (s : State) :
    exec (.faultAgg w) s = .next { s with decoder := { s.decoder with faultAny := faultAny w } } := rfl

@[simp] theorem exec_decode (w : FrameWord) (s : State) :
    exec (.decode w) s = .next { s with decoder := { s.decoder with reading := readingOf w } } := rfl

/-! ### Bit vectors: slices of slices, sign extension by a fill mask, the signed upper part -/

theorem extractLsb'_extractLsb' {n : Nat} (x : BitVec n) {a k b m : Nat} (h : b + m ≤ k) :
    (x.extractLsb' a k).extractLsb' b m = x.extractLsb' (a + b) m := by
  apply BitVec.eq_of_getLsbD_eq
  intro i hi
  simp only [BitVec.getLsbD_extractLsb', hi, show b + i < k by omega, decide_true, Bool.true_and, Nat.add_assoc]

theorem toNat_append_zero_div {n : Nat} (m : Nat) (x : BitVec n) : (x ++ 0#m).toNat / 2 ^ m = x.toNat := by
  rw [BitVec.toNat_append, BitVec.toNat_zero, Nat.or_zero, Nat.shiftLeft_eq, Nat.mul_div_cancel _ (Nat.two_pow_pos m)]

/-- Sign extension fills every bit above the sign with ones or leaves them zero; the mask is not the sign test (R47, R50). -/
theorem signExtend_eq_fill {n : Nat} (m : Nat) (f : BitVec n) :
    f.signExtend m = if f.msb then f.setWidth m ||| BitVec.allOnes m <<< n else f.setWidth m := by
  cases hmsb : f.msb with
  | false => exact BitVec.signExtend_eq_setWidth_of_msb_false hmsb
  | true =>
    apply BitVec.eq_of_getLsbD_eq
    intro i hi
    rw [BitVec.getLsbD_signExtend, hmsb, if_pos rfl]
    by_cases hin : i < n
    · simp [hi, hin]
    · simp [hi, hin]

/-- Dropping low bits rounds the signed number down. -/
theorem toInt_upperBits {n m : Nat} (hn : 0 < n) (x : BitVec (n + m)) :
    (x.extractLsb' m n).toInt = x.toInt / 2 ^ m := by
  have hlow : ((x.extractLsb' 0 m).toNat : Int) / 2 ^ m = 0 :=
    Int.ediv_eq_zero_of_lt (Int.natCast_nonneg _) (by exact_mod_cast (x.extractLsb' 0 m).isLt)
  conv_rhs => rw [← BitVec.extractLsb'_append_extractLsb' (x := x)]
  rw [BitVec.toInt_append, if_neg (by simpa using hn.ne'), Int.add_comm,
    Int.add_mul_ediv_left _ _ (Int.pow_ne_zero (by decide)), hlow, Int.zero_add]

/-! ### The probe field: a window shifted down, a signed count, quarters of a degree -/

theorem probeRaw14_getLsbD (w : FrameWord) (i : Nat) (hi : i < 14) :
    (probeRaw14 w).getLsbD i = w.getLsbD (i + 18) := by
  simp [probeRaw14, hi, Nat.add_comm]

theorem probeRaw14_msb (w : FrameWord) : (probeRaw14 w).msb = w.getLsbD 31 :=
  probeRaw14_getLsbD w 13 (by decide)

/-- The probe window is the field with two zeros below it (R27, R46). -/
theorem probeRaw14_append_zero (w : FrameWord) : probeRaw14 w ++ 0b00#2 = byte0 w ++ (byte1 w &&& 0xFC#8) := by
  rw [← append_and_lowMask, ← upperHalf_eq_bytes]
  refine Eq.trans ?_ (and_upperMask (n := 14) (m := 2) _).symm
  rw [extractLsb'_extractLsb' w (by decide), probeRaw14]

@[simp] theorem probeQ_toInt (w : FrameWord) : (probeQ w).toInt = (probeRaw14 w).toInt :=
  BitVec.toInt_signExtend_of_le (by decide)

/-- The two's-complement value of the field, its sign on W[31] (R47). -/
theorem probeRaw14_toInt (w : FrameWord) :
    (probeRaw14 w).toInt =
      if w.getLsbD 31 then ((probeRaw14 w).toNat : Int) - 16384 else ((probeRaw14 w).toNat : Int) := by
  rw [BitVec.toInt_eq_msb_cond, probeRaw14_msb]; rfl

theorem probeQ_toInt_range (w : FrameWord) : -8192 ≤ (probeQ w).toInt ∧ (probeQ w).toInt ≤ 8191 := by
  rw [probeQ_toInt]
  exact ⟨BitVec.le_toInt _, BitVec.toInt_le⟩

theorem probeTemperature_eq (q : Half) : probeTemperature q = (q.toInt : Rat) / 4 := Rat.mkRat_eq_div _ _

/-- Settles O11: the source's window is the field with two zeros below it, so shifting it down by two gives the field. -/
theorem probeFieldResult : Obligations.ProbeFieldResult := by
  intro w s
  refine ⟨probeRaw14 w, exec_probeField w s, probeRaw14_getLsbD w, ?_, Nat.le_of_lt_succ (probeRaw14 w).isLt⟩
  rw [← toNat_append_byte, ← probeRaw14_append_zero]
  exact (toNat_append_zero_div 2 _).symm

/-- Settles O12: sign extension is a fill above the sign and keeps the signed value, which has the range of 14 bits. -/
theorem probeSextResult : Obligations.ProbeSextResult := by
  intro w s
  refine ⟨probeRaw14 w, probeQ w, probeRaw14_getLsbD w, exec_probeSext w s, signExtend_eq_fill 16 (probeRaw14 w),
    probeRaw14_msb w, ?_, probeQ_toInt_range w⟩
  rw [probeQ_toInt]
  exact probeRaw14_toInt w

/-- Settles O13: the temperature is the field's signed value over 4, and so has the field's range over 4. -/
theorem probeScaleResult : Obligations.ProbeScaleResult := by
  intro w s
  refine ⟨probeRaw14 w, probeTemperature (probeQ w), probeRaw14_getLsbD w, exec_probeScale w s, ?_⟩
  rw [probeTemperature_eq, ← probeRaw14_toInt, ← probeQ_toInt]
  obtain ⟨hlo, hhi⟩ := probeQ_toInt_range w
  have hlo : (-8192 : Rat) ≤ (probeQ w).toInt := by exact_mod_cast hlo
  have hhi : ((probeQ w).toInt : Rat) ≤ 8191 := by exact_mod_cast hhi
  exact ⟨rfl, by linarith, by linarith⟩

/-! ### The reference field: a window shifted down, a signed count, sixteenths of a degree -/

theorem refRaw12_getLsbD (w : FrameWord) (i : Nat) (hi : i < 12) :
    (refRaw12 w).getLsbD i = w.getLsbD (i + 4) := by
  simp [refRaw12, hi, Nat.add_comm]

theorem refRaw12_msb (w : FrameWord) : (refRaw12 w).msb = w.getLsbD 15 :=
  refRaw12_getLsbD w 11 (by decide)

/-- The reference window is the field with four zeros below it (R27, R49). -/
theorem refRaw12_append_zero (w : FrameWord) : refRaw12 w ++ 0x0#4 = byte2 w ++ (byte3 w &&& 0xF0#8) := by
  rw [← append_and_lowMask, ← lowerHalf_eq_bytes]
  refine Eq.trans ?_ (and_upperMask (n := 12) (m := 4) _).symm
  rw [extractLsb'_extractLsb' w (by decide), refRaw12]

@[simp] theorem refQ_toInt (w : FrameWord) : (refQ w).toInt = (refRaw12 w).toInt :=
  BitVec.toInt_signExtend_of_le (by decide)

/-- The two's-complement value of the field, its sign on W[15] (R50). -/
theorem refRaw12_toInt (w : FrameWord) :
    (refRaw12 w).toInt =
      if w.getLsbD 15 then ((refRaw12 w).toNat : Int) - 4096 else ((refRaw12 w).toNat : Int) := by
  rw [BitVec.toInt_eq_msb_cond, refRaw12_msb]; rfl

theorem refQ_toInt_range (w : FrameWord) : -2048 ≤ (refQ w).toInt ∧ (refQ w).toInt ≤ 2047 := by
  rw [refQ_toInt]
  exact ⟨BitVec.le_toInt _, BitVec.toInt_le⟩

theorem refTemperature_eq (q : Half) : refTemperature q = (q.toInt : Rat) / 16 := Rat.mkRat_eq_div _ _

/-- Settles O14: the source's window is the field with four zeros below it, so shifting it down by four gives the field. -/
theorem refFieldResult : Obligations.RefFieldResult := by
  intro w s
  refine ⟨refRaw12 w, exec_refField w s, refRaw12_getLsbD w, ?_, Nat.le_of_lt_succ (refRaw12 w).isLt⟩
  rw [← toNat_append_byte, ← refRaw12_append_zero]
  exact (toNat_append_zero_div 4 _).symm

/-- Settles O15: sign extension is a fill above the sign and keeps the signed value, which has the range of 12 bits. -/
theorem refSextResult : Obligations.RefSextResult := by
  intro w s
  refine ⟨refRaw12 w, refQ w, refRaw12_getLsbD w, exec_refSext w s, signExtend_eq_fill 16 (refRaw12 w),
    refRaw12_msb w, ?_, refQ_toInt_range w⟩
  rw [refQ_toInt]
  exact refRaw12_toInt w

/-- Settles O16: the temperature is the field's signed value over 16, and so has the field's range over 16. -/
theorem refScaleResult : Obligations.RefScaleResult := by
  intro w s
  refine ⟨refRaw12 w, refTemperature (refQ w), refRaw12_getLsbD w, exec_refScale w s, ?_⟩
  rw [refTemperature_eq, ← refRaw12_toInt, ← refQ_toInt]
  obtain ⟨hlo, hhi⟩ := refQ_toInt_range w
  have hlo : (-2048 : Rat) ≤ (refQ w).toInt := by exact_mod_cast hlo
  have hhi : ((refQ w).toInt : Rat) ≤ 2047 := by exact_mod_cast hhi
  exact ⟨rfl, by linarith, by linarith⟩

/-- Settles O21: a count is its field's signed value, and that of a two's-complement pattern is the integer itself. -/
theorem integerRoundTrip : Obligations.IntegerRoundTrip := by
  refine ⟨fun w s => ?_, fun n w s hlo hhi hw => ?_, fun n w s hlo hhi hw => ?_⟩
  · obtain ⟨hplo, hphi⟩ := probeQ_toInt_range w
    obtain ⟨hrlo, hrhi⟩ := refQ_toInt_range w
    exact ⟨_, _, exec_probeSext w s, hplo, hphi, exec_refSext w s, hrlo, hrhi⟩
  · have hq : (probeQ w).toInt = n := by
      rw [probeQ_toInt, probeRaw14, hw, BitVec.toInt_ofInt_eq_self (by decide) hlo (Int.lt_add_one_of_le hhi)]
    exact ⟨_, _, exec_probeSext w s, hq, exec_probeScale w s, by rw [probeTemperature_eq, hq]⟩
  · have hq : (refQ w).toInt = n := by
      rw [refQ_toInt, refRaw12, hw, BitVec.toInt_ofInt_eq_self (by decide) hlo (Int.lt_add_one_of_le hhi)]
    exact ⟨_, _, exec_refSext w s, hq, exec_refScale w s, by rw [refTemperature_eq, hq]⟩

/-! ### The fault bits and the reading -/

theorem byte3_getLsbD (w : FrameWord) {i : Nat} (hi : i < 8) : (byte3 w).getLsbD i = w.getLsbD i := by
  simp [byte3, hi]

theorem byte1_getLsbD (w : FrameWord) {i : Nat} (hi : i < 8) : (byte1 w).getLsbD i = w.getLsbD (16 + i) := by
  simp [byte1, hi]

/-- Settles O17: each indicator is its bit of the frame word, found in the byte that holds it. -/
theorem faultIndicatorResults : Obligations.FaultIndicatorResults := by
  intro w s
  rw [byte3_getLsbD w (by decide), byte3_getLsbD w (by decide), byte3_getLsbD w (by decide), byte1_getLsbD w (by decide)]
  exact ⟨exec_faultScv w s, exec_faultScg w s, exec_faultOc w s, exec_faultAgg w s⟩

/-- Settles O18: each count is the signed upper part of the word or of its low half. -/
theorem decodeResult : Obligations.DecodeResult := by
  intro w s
  refine ⟨readingOf w, exec_decode w s, rfl, rfl, rfl, rfl, rfl, rfl, ?_, ?_⟩
  · exact (probeQ_toInt w).trans (toInt_upperBits (n := 14) (m := 18) (by decide) w)
  · have hfield : refRaw12 w = (w.setWidth 16).extractLsb' 4 12 := by
      rw [BitVec.setWidth_eq_extractLsb' (by decide), extractLsb'_extractLsb' w (by decide), refRaw12]
    refine (refQ_toInt w).trans ?_
    rw [hfield]
    exact toInt_upperBits (n := 12) (m := 4) (by decide) (w.setWidth 16)

/-- A frame word with the four fault bits put in place of its own (R56). -/
def withFaultBits (w : FrameWord) (a v g o : Bool) : FrameWord :=
  w.extractLsb' 17 15 ++ BitVec.ofBool a ++ w.extractLsb' 3 13 ++ BitVec.ofBool v ++ BitVec.ofBool g ++ BitVec.ofBool o

theorem probeRaw14_withFaultBits (w : FrameWord) (a v g o : Bool) :
    probeRaw14 (withFaultBits w a v g o) = probeRaw14 w := by
  rw [probeRaw14, withFaultBits]
  iterate 5 rw [BitVec.extractLsb'_append_eq_of_le (by decide)]
  rw [extractLsb'_extractLsb' w (by decide), probeRaw14]

theorem refRaw12_withFaultBits (w : FrameWord) (a v g o : Bool) :
    refRaw12 (withFaultBits w a v g o) = refRaw12 w := by
  rw [refRaw12, withFaultBits]
  iterate 3 rw [BitVec.extractLsb'_append_eq_of_le (by decide)]
  rw [BitVec.extractLsb'_append_eq_of_add_le (by decide), extractLsb'_extractLsb' w (by decide), refRaw12]

theorem readingOf_withFaultBits (w : FrameWord) (a v g o : Bool) :
    readingOf (withFaultBits w a v g o) =
      { probeQ := probeQ w, refQ := refQ w, scv := v, scg := g, oc := o, faultAny := a } := by
  rw [readingOf, probeQ, refQ, probeRaw14_withFaultBits, refRaw12_withFaultBits, ← probeQ, ← refQ]
  simp only [withFaultBits, scv, scg, oc, faultAny, BitVec.getLsbD_append]
  simp

/-- Settles O20: the four bits lie outside both fields, and each is read from its own place. -/
theorem faultBitsAreIndependent : Obligations.FaultBitsAreIndependent := by
  intro w a v g o s
  change exec (.decode (withFaultBits w a v g o)) s = _
  rw [exec_decode, readingOf_withFaultBits]
  rfl

/-! ### What the FRAME operations depend on -/

/-- Settles O22: count and temperature are functions of the field. -/
theorem probeAndReferenceAreIndependent : Obligations.ProbeAndReferenceAreIndependent := by
  intro w w' s
  constructor
  · intro (hfield : probeRaw14 w = probeRaw14 w')
    have hq : probeQ w = probeQ w' := congrArg probeSext hfield
    simp only [exec_probeField, exec_probeSext, exec_probeScale, hfield, hq, and_self]
  · intro (hfield : refRaw12 w = refRaw12 w')
    have hq : refQ w = refQ w' := congrArg refSext hfield
    simp only [exec_refField, exec_refSext, exec_refScale, hfield, hq, and_self]

/-- Settles O23: operation by operation, the new record is made of W and the old record alone. -/
theorem decoderOperationsAreStateless : Obligations.DecoderOperationsAreStateless := by
  intro w i hi s
  simp only [decodeFrame, List.mem_cons, List.not_mem_nil, or_false] at hi
  rcases hi with rfl | rfl | rfl | rfl | rfl | rfl | rfl | rfl | rfl | rfl | rfl
  all_goals
    refine ⟨_, rfl, fun s' hs => ?_⟩
    rw [← hs]
    rfl

end Sys2Proof.Machine

namespace Sys2Proof.Machine

/-! ### The edge operations CAP, BERR and NOP: which architectural fields each one writes -/

@[simp] theorem exec_cap (w : FrameWord) (s : State) : exec (.cap w) s = .next (s.captureFrame w) := rfl

/-- `frame_we` selects nothing: CAPBERR is BERR (R64). -/
@[simp] theorem exec_berr (frameWe : Bool) (s : State) : exec (.berr frameWe) s = .next s.recordBusError := rfl

@[simp] theorem exec_nop (s : State) : exec .nop s = .next s := rfl

/-- Two bus errors in a row leave the same state as one (R63). -/
theorem State.recordBusError_recordBusError (s : State) :
    s.recordBusError.recordBusError = s.recordBusError := rfl

/-- STATUS shows the status word whatever VALID is (R76). -/
theorem readout_status (s : State) :
    readout s 0b101#3 = { rdata := statusWord s.buserr s.valid, rvalid := true } := rfl

theorem statusWord_idle : statusWord false false = 0x0000#16 := by decide

theorem statusWord_reading : statusWord false true = 0x0001#16 := by decide

theorem statusWord_busError : statusWord true false = 0x0002#16 := by decide

/-- Settles O24: CAP performs the capture's writes. -/
theorem capResult : Obligations.CapResult := by
  intro w s
  rw [exec_cap, State.captureFrame_eq]

/-- Settles O25: the state after a bus error has VALID = 0, which gates every data select. -/
theorem berrResult : Obligations.BerrResult := by
  intro f g s
  refine ⟨s.recordBusError, exec_berr f s, s.recordBusError_eq, ?_, ?_, ?_⟩
  · rw [exec_berr, s.recordBusError_recordBusError]
  · intro sel hsel
    have hvalid : s.recordBusError.valid = false := rfl
    exact readout_data_of_not_valid hvalid hsel
  · rw [readout_status, s.recordBusError_eq, statusWord_busError]

/-- Settles O26: NOP's edge writes nothing. -/
theorem nopResult : Obligations.NopResult := exec_nop

/-! ### STATUS and the report: both are told by the two flags -/

theorem readout_status_eq_iff (s : State) (d : Half) :
    readout s 0b101#3 = { rdata := d, rvalid := true } ↔ statusWord s.buserr s.valid = d := by
  simp [readout_status]

/-- VALID alone tells a reading, also where BUSERR is 1 too (log entry 10). -/
theorem State.report_of_valid {s : State} (hv : s.valid = true) : s.report = .reading (readingOf s.frame) :=
  if_pos hv

theorem State.report_of_buserr {s : State} (hv : s.valid = false) (hb : s.buserr = true) : s.report = .busError := by
  simp [State.report, hv, hb]

theorem State.report_of_idle {s : State} (hv : s.valid = false) (hb : s.buserr = false) :
    s.report = .noTransaction := by
  simp [State.report, hv, hb]

/-- The three values of the flags from the first reset on (R15): no transaction yet, a reading, a bus error. -/
theorem State.Sound.flag_cases {s : State} (h : s.Sound) :
    (s.valid = false ∧ s.buserr = false) ∨ (s.valid = true ∧ s.buserr = false) ∨
      (s.valid = false ∧ s.buserr = true) := by
  cases hv : s.valid with
  | true => exact .inr (.inl ⟨rfl, Bool.eq_false_iff.mpr fun hb => h.flagsExclusive ⟨hv, hb⟩⟩)
  | false =>
    cases hb : s.buserr with
    | true => exact .inr (.inr ⟨rfl, rfl⟩)
    | false => exact .inl ⟨rfl, rfl⟩

/-- Settles O53: the three values of the flags give three different words and three different reports. -/
theorem statusTellsReport : Obligations.StatusTellsReport := by
  intro s hs
  simp only [readout_status_eq_iff]
  obtain ⟨hv, hb⟩ | ⟨hv, hb⟩ | ⟨hv, hb⟩ := hs.flag_cases
  · simp [hv, hb, statusWord_idle, State.report_of_idle hv hb]
  · simp [hv, hb, statusWord_reading, State.report_of_valid hv]
  · simp [hv, hb, statusWord_busError, State.report_of_buserr hv hb]

end Sys2Proof.Machine

namespace Sys2Proof.Machine

/-! ### The gate: VALID passes a view on or clears it -/

theorem gated_rdata_getLsbD (b : Bool) (v : Half) (i : Nat) :
    (gated b v).rdata.getLsbD i = (b && v.getLsbD i) := by
  cases b with
  | true => rw [gated_true, Bool.true_and]
  | false => rw [gated_false, Bool.false_and, BitVec.getLsbD_zero]

/-- A closed gate reads 0, so a range around 0 that holds of the view holds of the word read. -/
theorem gated_rdata_toInt_range (b : Bool) {v : Half} {lo hi : Int} (hzero : lo ≤ 0 ∧ 0 ≤ hi)
    (hv : lo ≤ v.toInt ∧ v.toInt ≤ hi) : lo ≤ (gated b v).rdata.toInt ∧ (gated b v).rdata.toInt ≤ hi := by
  cases b with
  | true => exact hv
  | false => exact hzero

/-! ### The SEL operations: what each one drives on the outputs -/

theorem readout_probe (s : State) : readout s 0b000#3 = gated s.valid (probeQ s.frame) := rfl

theorem readout_ref (s : State) : readout s 0b001#3 = gated s.valid (refQ s.frame) := rfl

theorem readout_fault (s : State) : readout s 0b010#3 = gated s.valid (faultWord (readingOf s.frame)) := rfl

theorem readout_rawhi (s : State) : readout s 0b011#3 = gated s.valid (byte0 s.frame ++ byte1 s.frame) :=
  congrArg (gated s.valid) (upperHalf_eq_bytes s.frame)

theorem readout_rawlo (s : State) : readout s 0b100#3 = gated s.valid (byte2 s.frame ++ byte3 s.frame) :=
  congrArg (gated s.valid) (lowerHalf_eq_bytes s.frame)

/-- A select that reads a view gated by VALID drives the gated word, with `rvalid` = VALID (R70). -/
theorem exec_decodeSel_of_gated {s : State} {sel : BitVec 3} {v : Half} (h : readout s sel = gated s.valid v) :
    exec (decodeSel sel) s = .next { s with rdata := (gated s.valid v).rdata, rvalid := s.valid } := by
  rw [exec_decodeSel, h, State.setOutputs, gated_rvalid]

theorem exec_rdProbe (s : State) :
    exec .rdProbe s = .next { s with rdata := (gated s.valid (probeQ s.frame)).rdata, rvalid := s.valid } :=
  exec_decodeSel_of_gated (readout_probe s)

theorem exec_rdRef (s : State) :
    exec .rdRef s = .next { s with rdata := (gated s.valid (refQ s.frame)).rdata, rvalid := s.valid } :=
  exec_decodeSel_of_gated (readout_ref s)

theorem exec_rdFault (s : State) :
    exec .rdFault s =
      .next { s with rdata := (gated s.valid (faultWord (readingOf s.frame))).rdata, rvalid := s.valid } :=
  exec_decodeSel_of_gated (readout_fault s)

theorem exec_rdRawhi (s : State) :
    exec .rdRawhi s =
      .next { s with rdata := (gated s.valid (byte0 s.frame ++ byte1 s.frame)).rdata, rvalid := s.valid } :=
  exec_decodeSel_of_gated (readout_rawhi s)

theorem exec_rdRawlo (s : State) :
    exec .rdRawlo s =
      .next { s with rdata := (gated s.valid (byte2 s.frame ++ byte3 s.frame)).rdata, rvalid := s.valid } :=
  exec_decodeSel_of_gated (readout_rawlo s)

theorem exec_rdStatus (s : State) :
    exec .rdStatus s = .next { s with rdata := statusWord s.buserr s.valid, rvalid := true } :=
  exec_decodeSel 0b101#3 s

theorem exec_rdRsvd6 (s : State) : exec .rdRsvd6 s = .next { s with rdata := 0x0000#16, rvalid := false } :=
  exec_decodeSel 0b110#3 s

theorem exec_rdRsvd7 (s : State) : exec .rdRsvd7 s = .next { s with rdata := 0x0000#16, rvalid := false } :=
  exec_decodeSel 0b111#3 s

/-! ### The bits of the words read -/

/-- Every bit of a sign extension from the sign upwards is a copy of the sign. -/
theorem signExtend_getLsbD_of_le {n m i : Nat} (f : BitVec n) (hn : n ≤ i + 1) (hi : i < m) :
    (f.signExtend m).getLsbD i = f.msb := by
  rw [BitVec.getLsbD_signExtend, decide_eq_true hi, Bool.true_and]
  split
  next hlt =>
    obtain rfl : i = n - 1 := by omega
    exact (BitVec.msb_eq_getLsbD_last f).symm
  next => rfl

theorem probeQ_getLsbD_sign (w : FrameWord) {i : Nat} (h13 : 13 ≤ i) (hi : i < 16) :
    (probeQ w).getLsbD i = (probeRaw14 w).msb :=
  signExtend_getLsbD_of_le _ (Nat.succ_le_succ h13) hi

theorem refQ_getLsbD_sign (w : FrameWord) {i : Nat} (h11 : 11 ≤ i) (hi : i < 16) :
    (refQ w).getLsbD i = (refRaw12 w).msb :=
  signExtend_getLsbD_of_le _ (Nat.succ_le_succ h11) hi

theorem setWidth_getLsbD_of_ge {n i : Nat} (m : Nat) (x : BitVec n) (h : n ≤ i) :
    (x.setWidth m).getLsbD i = false := by
  rw [BitVec.getLsbD_setWidth, BitVec.getLsbD_of_ge x i h, Bool.and_false]

/-- Bit 3 is FAULT_ANY, then SCV, SCG and OC (R73). -/
theorem faultWord_bits (r : Reading) :
    (faultWord r).getLsbD 3 = r.faultAny ∧ (faultWord r).getLsbD 2 = r.scv ∧ (faultWord r).getLsbD 1 = r.scg ∧
      (faultWord r).getLsbD 0 = r.oc := by
  unfold faultWord
  generalize r.faultAny = a, r.scv = v, r.scg = g, r.oc = o
  revert a v g o
  decide

theorem faultWord_getLsbD_of_ge (r : Reading) {i : Nat} (h : 4 ≤ i) : (faultWord r).getLsbD i = false :=
  setWidth_getLsbD_of_ge 16 _ h

theorem statusWord_bits (b v : Bool) : (statusWord b v).getLsbD 0 = v ∧ (statusWord b v).getLsbD 1 = b := by
  revert b v; decide

theorem statusWord_getLsbD_of_ge (b v : Bool) {i : Nat} (h : 2 ≤ i) : (statusWord b v).getLsbD i = false :=
  setWidth_getLsbD_of_ge 16 _ h

/-- From the first reset on STATUS reads one of three words (R15, R76). -/
theorem State.Sound.statusWord_cases {s : State} (h : s.Sound) :
    statusWord s.buserr s.valid = 0x0000#16 ∨ statusWord s.buserr s.valid = 0x0001#16 ∨
      statusWord s.buserr s.valid = 0x0002#16 := by
  obtain ⟨hv, hb⟩ | ⟨hv, hb⟩ | ⟨hv, hb⟩ := h.flag_cases <;> rw [hv, hb]
  · exact .inl statusWord_idle
  · exact .inr (.inl statusWord_reading)
  · exact .inr (.inr statusWord_busError)

/-! ### The statements about the SEL operations -/

/-- Settles O29: the word is the gated probe count, whose upper three bits are all the field's sign. -/
theorem rdProbeResult : Obligations.RdProbeResult := by
  intro s
  obtain ⟨hlo, hhi⟩ := gated_rdata_toInt_range s.valid (by decide) (probeQ_toInt_range s.frame)
  refine ⟨_, exec_rdProbe s, gated_rdata _ _, hlo, hhi, ?_, ?_⟩ <;>
    rw [gated_rdata_getLsbD, gated_rdata_getLsbD, probeQ_getLsbD_sign _ (by decide) (by decide),
      probeQ_getLsbD_sign _ (by decide) (by decide)]

/-- Settles O30: the word is the gated reference count, whose upper five bits are all the field's sign. -/
theorem rdRefResult : Obligations.RdRefResult := by
  intro s
  obtain ⟨hlo, hhi⟩ := gated_rdata_toInt_range s.valid (by decide) (refQ_toInt_range s.frame)
  refine ⟨_, exec_rdRef s, gated_rdata _ _, hlo, hhi, fun i h11 hi => ?_⟩
  rw [gated_rdata_getLsbD, gated_rdata_getLsbD, refQ_getLsbD_sign _ h11 hi, refQ_getLsbD_sign _ (by decide) (by decide)]

/-- Settles O31: each bit of the fault word of FRAME, behind the gate. -/
theorem rdFaultResult : Obligations.RdFaultResult := by
  intro s
  refine ⟨_, exec_rdFault s, ?_⟩
  obtain ⟨hany, hscv, hscg, hoc⟩ := faultWord_bits (readingOf s.frame)
  simp only [gated_rdata_getLsbD, hany, hscv, hscg, hoc]
  refine ⟨rfl, rfl, rfl, rfl, fun i hi => ?_⟩
  rw [faultWord_getLsbD_of_ge _ hi, Bool.and_false]

/-- Settles O32: each raw half is its two bytes side by side, behind the gate. -/
theorem rdRawResults : Obligations.RdRawResults := by
  intro s
  rw [exec_rdRawhi, exec_rdRawlo, gated_rdata, gated_rdata]
  exact ⟨rfl, rfl⟩

/-- Settles O33: the bits of the status word, and its three values under the rule that the flags exclude each other. -/
theorem rdStatusResult : Obligations.RdStatusResult := by
  intro s
  obtain ⟨hvalid, hbuserr⟩ := statusWord_bits s.buserr s.valid
  exact ⟨_, exec_rdStatus s, hvalid, hbuserr, fun _ hi => statusWord_getLsbD_of_ge _ _ hi,
    State.Sound.statusWord_cases⟩

/-- Settles O34: the two reserved codes have a readout like every other. -/
theorem rdReservedResults : Obligations.RdReservedResults := fun s => ⟨exec_rdRsvd6 s, exec_rdRsvd7 s⟩

/-! ### A reading read word by word -/

/-- The two counts and the fault word hold all of a reading (R57, R71 to R73). -/
theorem assembleReading_faultWord (r : Reading) : assembleReading r.probeQ r.refQ (faultWord r) = r := by
  obtain ⟨hany, hscv, hscg, hoc⟩ := faultWord_bits r
  rw [assembleReading, hany, hscv, hscg, hoc]

/-- Settles O50: through idle cycles every read is a readout of the first state, so the three words are of one frame. -/
theorem snapshotReadIsOneReading : Obligations.SnapshotReadIsOneReading := by
  intro s ps rest i j k p q r hscript hquiet hvalid hi hp hj hq hk hr
  have hobs : ∀ {n : Nat} {x : Ports}, ps[n]? = some x →
      (observations ps.length s)[n]? = some (readout s x.sel) := by
    intro n x hn
    rw [observations_of_quiet hscript hquiet, List.getElem?_map, hn, Option.map_some]
  refine ⟨_, _, _, hobs hi, hobs hj, hobs hk, ?_⟩
  rw [hp, hq, hr, readout_probe, readout_ref, readout_fault, hvalid]
  exact ⟨rfl, rfl, rfl, assembleReading_faultWord (readingOf s.frame)⟩

end Sys2Proof.Machine

namespace Sys2Proof.Machine

/-! ### Completion and the edge's priority -/

/-- Every operation completes: an edge operation with its writes, a readout with a new word on the outputs, an operation
on a frame word with new decoder outputs (R80). -/
theorem exec_completes (i : Instr) (s : State) : ∃ t, exec i s = .next t := by
  cases i with
  | rst _ _ => exact ⟨s.resetBlock, rfl⟩
  | berr frameWe => exact ⟨s.recordBusError, exec_berr frameWe s⟩
  | cap w => exact ⟨s.captureFrame w, exec_cap w s⟩
  | nop => exact ⟨s, exec_nop s⟩
  | rdProbe | rdRef | rdFault | rdRawhi | rdRawlo | rdStatus | rdRsvd6 | rdRsvd7 => exact ⟨s.setOutputs _, rfl⟩
  | probeField _ | probeSext _ | probeScale _ | refField _ | refSext _ | refScale _ | faultScv _ | faultScg _
  | faultOc _ | faultAgg _ | decode _ => exact ⟨s.setDecoder _, rfl⟩

/-- Settles O36: the operations one kind at a time, and a step by the state after its cycle. -/
theorem nothingFails : Obligations.NothingFails :=
  ⟨exec_completes, fun s => ⟨afterCycle s, step_afterCycle s⟩⟩

/-- Settles O39: in each of the four kinds of edge the state after the cycle has that operation's writes, and its outputs
were fixed before the edge. -/
theorem edgePriority : Obligations.EdgePriority := by
  intro s
  refine ⟨afterCycle s, step_afterCycle s, afterCycle_observed s, ?_⟩
  obtain hr | ⟨hr, he⟩ | ⟨hr, he, hw⟩ | hq := edge_cases s.ports
  · obtain ⟨hf, hv, hb⟩ := afterCycle_hasResetValues hr
    simp [hr, hf, hv, hb]
  · simp [hr, he, afterCycle, edgeWrites_of_berr hr he, State.recordBusError_eq]
  · simp [hr, he, hw, afterCycle, edgeWrites_of_cap hr he hw, State.captureFrame_eq]
  · obtain ⟨hr, he, hw⟩ := (quiet_iff s.ports).mp hq
    simp [hr, he, hw, afterCycle, edgeWrites_of_quiet hq]

end Sys2Proof.Machine

namespace Sys2Proof.Machine

/-! ### RST, and the reads from a reset to the next transaction -/

/-- `bus_err` and `frame_we` select nothing at a reset edge (R84). -/
@[simp] theorem exec_rst (busErr frameWe : Bool) (s : State) : exec (.rst busErr frameWe) s = .next s.resetBlock := rfl

/-- Settles O27: RST performs the reset's writes, which are the values of the reset state. -/
theorem rstResult : Obligations.RstResult := by
  intro e f s
  rw [exec_rst, State.resetBlock_eq]
  exact ⟨rfl, rfl, rfl, rfl⟩

theorem readout_reset (sel : BitVec 3) :
    readout State.reset sel = { rdata := 0x0000#16, rvalid := sel == 0b101#3 } := by
  revert sel; decide

/-- With the reset values only STATUS is a valid read, and it too reads 0x0000 (R93). -/
theorem State.HasResetValues.readout_eq {s : State} (h : s.HasResetValues) (sel : BitVec 3) :
    readout s sel = { rdata := 0x0000#16, rvalid := sel == 0b101#3 } := by
  rw [← readout_reset]
  exact readout_congr h.frame h.valid h.buserr sel

/-- A cycle that ends in RST or NOP keeps the reset values: RST writes them again, NOP writes nothing. -/
theorem State.HasResetValues.afterCycle {s : State} (h : s.HasResetValues) (hp : noTransaction s.ports = true) :
    (afterCycle s).HasResetValues := by
  cases hr : s.ports.rst with
  | true => exact afterCycle_hasResetValues hr
  | false =>
    have hq : quiet s.ports = true := by simpa [noTransaction, quiet, hr] using hp
    rw [Machine.afterCycle, edgeWrites_of_quiet hq]
    exact ⟨h.frame, h.valid, h.buserr⟩

/-- Where all states of an invariant read alike, so do the cycles of a run that keeps it, and the cycle after them. -/
theorem observations_eq_map_of_invariant {I : State → Prop} {Q : Ports → Prop} {read : BitVec 3 → ReadWord}
    (hkeep : ∀ s, I s → Q s.ports → I (afterCycle s)) (hread : ∀ s, I s → ∀ sel, readout s sel = read sel)
    {ps rest : List Ports} {s : State} (hscript : s.script = ps ++ rest) (hQ : ∀ q ∈ ps.dropLast, Q q) (hI : I s) :
    observations ps.length s = ps.map (fun q => read q.sel) := by
  refine List.ext_getElem (by rw [observations_length, List.length_map]) fun k _ hk => ?_
  rw [List.length_map] at hk
  obtain ⟨u, hu, hobs⟩ := observations_of_invariant hkeep hscript hQ hI (List.getElem?_eq_getElem hk)
  rw [List.getElem_map, ← hread u hu]
  exact (List.getElem?_eq_some_iff.mp hobs).2

/-- Settles O47: the reset edge gives the reset values, and every cycle before the first transaction keeps them. -/
theorem readsAfterReset : Obligations.ReadsAfterReset := by
  intro s p ps rest hscript hrst hlast
  have hports : s.ports = p := s.ports_cons p _ hscript
  have hreset : (afterCycle s).HasResetValues := afterCycle_hasResetValues (hports ▸ hrst)
  have hnext : (afterCycle s).script = ps ++ rest := by simp [hscript]
  rw [observations_succ, hports, observations_eq_map_of_invariant (Q := (noTransaction · = true))
    (fun _ => State.HasResetValues.afterCycle) (fun _ => State.HasResetValues.readout_eq) hnext hlast hreset]

/-! ### The new state is readable from the next cycle on -/

/-- A CAP edge leaves the presented frame and VALID = 1, on which alone the next readout depends (R62, R96). -/
theorem readout_afterCycle_of_cap {s : State} (hr : s.ports.rst = false) (he : s.ports.busErr = false)
    (hw : s.ports.frameWe = true) (sel : BitVec 3) :
    readout (afterCycle s) sel =
      readout { s with frame := s.ports.frameIn, valid := true, buserr := false } sel := by
  rw [afterCycle, edgeWrites_of_cap hr he hw]
  exact readout_congr rfl rfl rfl sel

/-- Settles O40: each cycle shows the readout of the state it starts in, and the second starts in the state after the
first one's edge. -/
theorem newStateReadableNextCycle : Obligations.NewStateReadableNextCycle := by
  intro s p q rest hscript
  have hports : s.ports = p := s.ports_cons p _ hscript
  have hnext : (afterCycle s).ports = q := State.ports_cons _ q rest (by simp [hscript])
  refine ⟨afterCycle s, step_afterCycle s, ?_, ?_⟩
  · rw [observations_succ, observations_succ, hports, hnext, observations]
  · subst hports
    exact fun hr he hw => readout_afterCycle_of_cap hr he hw q.sel

end Sys2Proof.Machine
